-- ==== Sys2Proof/Word.lean ====
section
/-! DEFINITION. The word types of the block and the two families of like registers: four logical channels and
four output lines (spec/00_scope.md R9 to R11). -/

namespace Sys2Proof

/-- u8: a byte of the frame or of the store. -/
abbrev Byte := BitVec 8
/-- u32: the counter `now` and every instant compared with it (R8 `TIME_W`, R24). -/
abbrev Time := BitVec 32
/-- u11: a ChannelValue (R15, R29). -/
abbrev ChannelValue := BitVec 11
/-- u12: a bound of a CalibrationRange (R8 `RANGE_W`, R32). -/
abbrev Bound := BitVec 12
/-- u12: a PulseWidth in microseconds (R8 `PW_W`, R33). -/
abbrev Width := BitVec 12

/-- The four logical channels, in the order of R9 (index 0 to 3). -/
inductive Channel where
  | rudder
  | throttle
  | aileron
  | elevator
deriving DecidableEq, Repr

/-- The index c of R9. -/
def Channel.index : Channel → Nat
  | .rudder => 0
  | .throttle => 1
  | .aileron => 2
  | .elevator => 3

/-- The four physical outputs, in the order of R9 (index 0 to 3). -/
inductive Output where
  | thr1
  | thr2
  | elv1
  | elv2
deriving DecidableEq, Repr

/-- One value for each logical channel (`CH`, `MIN`, `MAX`). -/
structure PerChannel (α : Type) where
  rudder : α
  throttle : α
  aileron : α
  elevator : α
deriving DecidableEq, Repr

/-- The register of channel `c`. -/
def PerChannel.get {α : Type} (p : PerChannel α) : Channel → α
  | .rudder => p.rudder
  | .throttle => p.throttle
  | .aileron => p.aileron
  | .elevator => p.elevator

/-- `p` with the register of channel `c` holding `v`. -/
def PerChannel.set {α : Type} (p : PerChannel α) (c : Channel) (v : α) : PerChannel α :=
  match c with
  | .rudder => { p with rudder := v }
  | .throttle => { p with throttle := v }
  | .aileron => { p with aileron := v }
  | .elevator => { p with elevator := v }

/-- The four values `f c`: the loops `for c in 0..3` of the spec. -/
def PerChannel.of {α : Type} (f : Channel → α) : PerChannel α :=
  ⟨f .rudder, f .throttle, f .aileron, f .elevator⟩

/-- One value for each output line (`PW`, `OUT`). -/
structure PerOutput (α : Type) where
  thr1 : α
  thr2 : α
  elv1 : α
  elv2 : α
deriving DecidableEq, Repr

/-- The register of output `k`. -/
def PerOutput.get {α : Type} (p : PerOutput α) : Output → α
  | .thr1 => p.thr1
  | .thr2 => p.thr2
  | .elv1 => p.elv1
  | .elv2 => p.elv2

/-- `p` with the register of output `k` holding `v`. -/
def PerOutput.set {α : Type} (p : PerOutput α) (k : Output) (v : α) : PerOutput α :=
  match k with
  | .thr1 => { p with thr1 := v }
  | .thr2 => { p with thr2 := v }
  | .elv1 => { p with elv1 := v }
  | .elv2 => { p with elv2 := v }

/-- The four values `f k`: the loops `for k in 0..3` of the spec. -/
def PerOutput.of {α : Type} (f : Output → α) : PerOutput α :=
  ⟨f .thr1, f .thr2, f .elv1, f .elv2⟩

end Sys2Proof
end

