-- ==== Sys2Proof/Config.lean ====
section
/-! DEFINITION. The named constants of R7, the two OPEN parameters of R8, and the free values of the model. -/

namespace Sys2Proof

namespace Config

/-- R7 `FRAME_LEN`. -/
def frameLen : Nat := 25
/-- R7 `HEADER`. -/
def header : Byte := 0x0F#8
/-- R7 `TRAILER`. -/
def trailer : Byte := 0x00#8
/-- R7 `FS_BYTE`. -/
def fsByte : Nat := 23
/-- R7 `FS_BIT`. -/
def fsBit : Nat := 3
/-- R7 `N_SLOTS`. -/
def nSlots : Nat := 16
/-- R7 `N_CH`; reducible, because it bounds the slot numbers of `SlotMap`. -/
abbrev nCh : Nat := 4
/-- R7 `CH_MAX`. -/
def chMax : Nat := 2047
/-- R7 `SYNC_PROBE_US`. -/
def syncProbeUs : Time := 100#32
/-- R7 `CAL_SENTINEL`. -/
def calSentinel : Bound := 1000#12
/-- R7 `CAL_SPAN_MIN`. -/
def calSpanMin : Nat := 600
/-- R7 `NV_SLOTS`. -/
def nvSlots : Nat := 9
/-- R7 `NV_USED`. -/
def nvUsed : Nat := 8
/-- R7 `NV_SCALE`. -/
def nvScale : Nat := 10
/-- R7 `NV_DEF_MIN`. -/
def nvDefMin : Byte := 1#8
/-- R7 `NV_DEF_MAX`. -/
def nvDefMax : Byte := 200#8
/-- R7 `DIFF_AUTH`, exactly 4/5 (D24). -/
def diffAuth : Rat := 4 / 5
/-- R7 `PW_BASE`. -/
def pwBase : Int := 880
/-- R7 `PW_SCALE`, exactly 13/20 (D24). -/
def pwScale : Rat := 13 / 20
/-- R7 `SLOT1_US`. -/
def slot1Us : Time := 1000#32
/-- R7 `SLOT2_US`. -/
def slot2Us : Time := 4000#32

end Config

/-- `CH_SLOT` (R8, D12): which of the frame's `N_CH` decoded slots each logical channel is decoded from. Any permutation of
(0, 1, 2, 3) is legal and nothing else is (U12), so a map that repeats a slot cannot be written down. -/
structure SlotMap where
  rudder : Fin Config.nCh
  throttle : Fin Config.nCh
  aileron : Fin Config.nCh
  elevator : Fin Config.nCh
  distinct : [rudder, throttle, aileron, elevator].Nodup
deriving DecidableEq, Repr

/-- The slot of channel `c`. -/
def SlotMap.get (m : SlotMap) : Channel → Fin Config.nCh
  | .rudder => m.rudder
  | .throttle => m.throttle
  | .aileron => m.aileron
  | .elevator => m.elevator

/-- The default of R8: `CH_SLOT[c] = c`. -/
def SlotMap.identity : SlotMap := ⟨0, 1, 2, 3, by decide⟩

/-- The two parameters R8 leaves OPEN, constant for the life of a model instance (R20; log 6). `ACK_HOLD_US` lies in
0 .. 2^31 − 1 (R8, U11), so it is a 31-bit number. -/
structure Params where
  chSlot : SlotMap
  ackHoldUs : BitVec 31
deriving DecidableEq, Repr

namespace Config

/-- The value of `ACK_HOLD_US` in `State.reset`: R8 gives no default, so nothing is known of it but its range (log 6). -/
opaque ackHoldUs : BitVec 31

/-- FREE VALUE (DESIGN CHOICE, log 17): the byte NV_STORE writes for a bound of 2560 or more, which R168's
`floor(raw / 10)` sends outside u8. No session reaches such a bound (R168). -/
opaque storedByteFree : Bound → Byte

/-- FREE VALUE (DESIGN CHOICE, log 18): the u12 that TO_PW writes where R194's integer is outside 0 .. 4095. It is not
for the ranges and outputs R195 speaks of. -/
opaque pulseWidthFree : Int → Width

end Config

end Sys2Proof
end

