-- ==== Sys2Proof/Syntax.lean ====
section
/-! DEFINITION. The control points (R92), the wire frame (R81) and the operations of the block, one constructor for
each row of spec/opcode_table.json, in the table's order. -/

namespace Sys2Proof

/-- A value of the u4 register `cp` (R21, R92): eleven named control points and the five reserved codes, which a model
that keeps a raw u4 can express (R95). -/
inductive ControlPoint where
  | probe
  | frame
  | wait1
  | hold1
  | wait2
  | hold2
  | ack
  | reserved7
  | top
  | cycle
  | cal
  | mix
  | reserved12
  | reserved13
  | reserved14
  | reserved15
deriving DecidableEq, Repr

/-- The 25 bytes of a group on the wire by their fields (R81): byte 0, the sixteen 11-bit slots of bytes 1 to 22,
byte 23 (bit 3 is the failsafe flag) and byte 24. It is a frame when the two markers are right (R82). -/
structure WireFrame where
  header : Byte
  slots : Vector ChannelValue 16
  flags : Byte
  trailer : Byte
deriving DecidableEq, Repr

/-- The operations of the block (R13, R14): rows 1 to 25 of the operation map (R94), the two data encodings (R84, R88),
the invoked procedures and the operations the ports select. -/
inductive Instr where
  | topCheck
  | probeStart
  | frameStart
  | probeOk
  | probeFail
  | frameDone
  | frameBad
  | decode
  | decodeFs
  | branch
  | calEnter
  | calExpand
  | calExit
  | calCommit
  | calReject
  | ackEnd
  | mixDegenerate
  | mixOk
  | pulse1On
  | pulse1Off
  | pulse2On
  | pulse2Off
  | reservedCp7
  | reservedCp12To15
  | stall
  /-- A group of 25 bytes on the wire, with `gap` quiet ticks between two bytes (`g − 1` of R100). -/
  | frame (gap : Nat) (f : WireFrame)
  /-- The stored byte `v` of the store slot `addr` (the width of `nv_addr`, R96). -/
  | nvByte (addr : BitVec 4) (v : Byte)
  | desync
  | nvLoad
  | nvStore
  | nvFormat
  | norm
  | thrMix
  | thrRedist
  | elvMix
  | toPw
  /-- RESET with the level of `fmt_req` it samples. -/
  | reset (fmtReq : Bool)
  | tick
  | run
  /-- RX_ACCEPT of the byte `rx_data`. -/
  | rxAccept (b : Byte)
  | rxStray
deriving DecidableEq, Repr

end Sys2Proof
end

