-- ==== Sys2Proof/WellFormed.lean ====
section
/-! DEFINITION. What an operation's operands must satisfy for the spec to give the operation a meaning. -/

namespace Sys2Proof

/-- Both markers of R82: byte 0 is 0x0F and byte 24 is 0x00. Nothing else is checked (R86). -/
def WireFrame.wellFormed (f : WireFrame) : Bool :=
  f.header == Config.header && f.trailer == Config.trailer

/-- A frame has its markers (R82, R86) and a stored byte lies in a used slot (R61: 0 to 7). Every other operation's
operands are legal at every value. -/
def Instr.wellFormed : Instr → Bool
  | .frame _ f => f.wellFormed
  | .nvByte addr _ => decide (addr.toNat < Config.nvUsed)
  | .topCheck | .probeStart | .frameStart | .probeOk | .probeFail | .frameDone | .frameBad => true
  | .decode | .decodeFs | .branch => true
  | .calEnter | .calExpand | .calExit | .calCommit | .calReject | .ackEnd => true
  | .mixDegenerate | .mixOk | .pulse1On | .pulse1Off | .pulse2On | .pulse2Off => true
  | .reservedCp7 | .reservedCp12To15 | .stall => true
  | .desync | .nvLoad | .nvStore | .nvFormat => true
  | .norm | .thrMix | .thrRedist | .elvMix | .toPw => true
  | .reset _ | .tick | .run | .rxAccept _ | .rxStray => true

end Sys2Proof
end

