-- ==== Sys2Proof/Decode.lean ====
section
/-! DEFINITION. The encodings of spec/30_encoding.md: control-point codes (R92), the operation map (R94), the wire frame
(R80 to R87), the store byte (R88), the selection by the ports (R94, R96); a total decoder, and after it the encoder. -/

namespace Sys2Proof

/-! ### Control-point codes (R92) -/

/-- The u4 code of a control point (R92). -/
def ControlPoint.code : ControlPoint → BitVec 4
  | .probe => 0#4
  | .frame => 1#4
  | .wait1 => 2#4
  | .hold1 => 3#4
  | .wait2 => 4#4
  | .hold2 => 5#4
  | .ack => 6#4
  | .reserved7 => 7#4
  | .top => 8#4
  | .cycle => 9#4
  | .cal => 10#4
  | .mix => 11#4
  | .reserved12 => 12#4
  | .reserved13 => 13#4
  | .reserved14 => 14#4
  | .reserved15 => 15#4

/-- The control point of a u4 code (R92). -/
def ControlPoint.ofCode (c : BitVec 4) : ControlPoint :=
  match c.toNat with
  | 0 => .probe
  | 1 => .frame
  | 2 => .wait1
  | 3 => .hold1
  | 4 => .wait2
  | 5 => .hold2
  | 6 => .ack
  | 7 => .reserved7
  | 8 => .top
  | 9 => .cycle
  | 10 => .cal
  | 11 => .mix
  | 12 => .reserved12
  | 13 => .reserved13
  | 14 => .reserved14
  | _ => .reserved15

/-! ### The operation map (R93, R94) -/

/-- A row of the operation map: it selects its operation when `(dw AND mask) = mtch` (R93). -/
structure Row where
  instr : Instr
  mtch : BitVec 13
  mask : BitVec 13
deriving DecidableEq, Repr

/-- The 25 rows of R94, in order. -/
def operationMap : List Row := [
  ⟨.topCheck, 0x1100#13, 0x1F00#13⟩,
  ⟨.probeStart, 0x1000#13, 0x1F80#13⟩,
  ⟨.frameStart, 0x1080#13, 0x1F80#13⟩,
  ⟨.probeOk, 0x0040#13, 0x1F40#13⟩,
  ⟨.probeFail, 0x0140#13, 0x1F40#13⟩,
  ⟨.frameDone, 0x0230#13, 0x1E30#13⟩,
  ⟨.frameBad, 0x0220#13, 0x1E30#13⟩,
  ⟨.decode, 0x1200#13, 0x1E00#13⟩,
  ⟨.decodeFs, 0x1200#13, 0x1E00#13⟩,
  ⟨.branch, 0x1200#13, 0x1E00#13⟩,
  ⟨.calEnter, 0x1408#13, 0x1E0C#13⟩,
  ⟨.calExpand, 0x140C#13, 0x1E0C#13⟩,
  ⟨.calExit, 0x1404#13, 0x1E0C#13⟩,
  ⟨.calCommit, 0x1402#13, 0x1E0E#13⟩,
  ⟨.calReject, 0x1400#13, 0x1E0E#13⟩,
  ⟨.ackEnd, 0x0C40#13, 0x1E40#13⟩,
  ⟨.mixDegenerate, 0x1600#13, 0x1E01#13⟩,
  ⟨.mixOk, 0x1601#13, 0x1E01#13⟩,
  ⟨.pulse1On, 0x0440#13, 0x1E40#13⟩,
  ⟨.pulse1Off, 0x0640#13, 0x1E40#13⟩,
  ⟨.pulse2On, 0x0840#13, 0x1E40#13⟩,
  ⟨.pulse2Off, 0x0A40#13, 0x1E40#13⟩,
  ⟨.reservedCp7, 0x0E00#13, 0x1E00#13⟩,
  ⟨.reservedCp12To15, 0x1800#13, 0x1800#13⟩,
  ⟨.stall, 0x0000#13, 0x0000#13⟩]

/-- Does the row match the dispatch word (R93)? -/
def Row.hits (r : Row) (dw : BitVec 13) : Bool := (dw &&& r.mask) == r.mtch

/-- The first row that matches (R93); row 25 (STALL) matches every word. -/
def firstRow (dw : BitVec 13) : Row :=
  (operationMap.find? (fun r => r.hits dw)).getD ⟨.stall, 0x0000#13, 0x0000#13⟩

/-- The operations performed for a dispatch word, in order: that of the first row that matches, and at CYCLE the three of
rows 8, 9 and 10, which share one match and are performed together (R93, R94). -/
def selected (dw : BitVec 13) : List Instr :=
  let r := firstRow dw
  (operationMap.filter (fun q => q.mtch == r.mtch && q.mask == r.mask)).map Row.instr

/-! ### The wire frame (R80 to R87, R150, R155) -/

/-- The number whose base-256 digits, least significant first, are the bytes (R150: `F[1] + F[2]·2^8 + …`). -/
def bytesValue : List Byte → Nat
  | [] => 0
  | b :: bs => b.toNat + 256 * bytesValue bs

/-- R150: the 176-bit payload of the frame buffer, the bytes between the header and the flags, `F[1..22]`. -/
def framePayload (F : Vector Byte 25) : Nat := bytesValue ((F.toList.drop 1).take (Config.fsByte - 1))

/-- R150: `slot(n) = floor(payload / 2^(11n)) mod 2^11` (general knowledge of the spec: log 20). -/
def slotOf (F : Vector Byte 25) (n : Nat) : ChannelValue :=
  BitVec.ofNat 11 (framePayload F / 2 ^ (11 * n))

/-- R155: `s0 + s1·2^11 + s2·2^22 + …`. -/
def slotsValue : List ChannelValue → Nat
  | [] => 0
  | s :: ss => s.toNat + 2 ^ 11 * slotsValue ss

/-- R81: the fields of 25 bytes. -/
def unpackFrame (F : Vector Byte 25) : WireFrame :=
  ⟨F[0], Vector.ofFn (fun n : Fin Config.nSlots => slotOf F n.val), F[Config.fsByte]'(by decide),
    F[Config.frameLen - 1]'(by decide)⟩

/-- R155 (PACK): the 25 bytes of given fields, byte `1 + i` being `floor(payload / 2^(8i)) mod 256`. -/
def packFrame (f : WireFrame) : Vector Byte 25 :=
  Vector.ofFn (fun i : Fin Config.frameLen =>
    if i.val = 0 then f.header
    else if i.val < Config.fsByte then BitVec.ofNat 8 (slotsValue f.slots.toList / 2 ^ (8 * (i.val - 1)))
    else if i.val = Config.fsByte then f.flags
    else f.trailer)

/-! ### Codes, and the decoder -/

/-- What selects an operation, by the formats of spec/opcode_table.json. -/
inductive Code where
  /-- DW13: the `step`-th (from 0) of the operations the dispatch word selects. `step` is not 0 at CYCLE only ("step 1 of
  3" to "step 3 of 3" of R94; log 10). -/
  | dispatch (dw : BitVec 13) (step : Nat)
  /-- FRAME200: bytes in order of arrival, `gap` quiet ticks between two of them (R100). -/
  | wire (gap : Nat) (bytes : List Byte)
  /-- NVBYTE8: a byte of the store and the slot it stands in (R88, R61). -/
  | storeByte (addr : BitVec 4) (v : Byte)
  /-- port: `rst` falls from 1 to 0 with this level of `fmt_req` (R256). -/
  | rstReleased (fmtReq : Bool)
  /-- port: an active edge of `clk` with `rst = 0` (R111). -/
  | clockEdge
  /-- port: part 2 of TICK (R112). -/
  | tickPart2
  /-- port: part 1 of TICK with `rx_valid = 1`, at this control point (R131, R132). -/
  | rx (cp : ControlPoint) (b : Byte)
deriving DecidableEq, Repr

/-- Why a code is no operation. -/
inductive DecodeError where
  /-- Fewer operations are selected by this dispatch word. -/
  | noSuchStep
  /-- A frame has 25 bytes and no other length (R80, R87). -/
  | frameLength
  /-- Byte 0 is not 0x0F (R82, R86). -/
  | badHeader
  /-- Byte 24 is not 0x00 (R82, R86). -/
  | badTrailer
  /-- Slots 0 to 7 hold bounds (R61). -/
  | storeAddress
deriving DecidableEq, Repr

/-- R86: 25 bytes with the right markers are a legal frame, whatever their other bits; anything else is none. -/
def decodeWire (gap : Nat) (bytes : List Byte) : Except DecodeError Instr :=
  if h : bytes.toArray.size = Config.frameLen then
    let f := unpackFrame ⟨bytes.toArray, h⟩
    if f.header ≠ Config.header then .error .badHeader
    else if f.trailer ≠ Config.trailer then .error .badTrailer
    else .ok (.frame gap f)
  else .error .frameLength

/-- The decoder: total, rejecting by name. -/
def decode : Code → Except DecodeError Instr
  | .dispatch dw step =>
    match (selected dw)[step]? with
    | some i => .ok i
    | none => .error .noSuchStep
  | .wire gap bytes => decodeWire gap bytes
  | .storeByte addr v =>
    if addr.toNat < Config.nvUsed then .ok (.nvByte addr v) else .error .storeAddress
  | .rstReleased fmtReq => .ok (.reset fmtReq)
  | .clockEdge => .ok .tick
  | .tickPart2 => .ok .run
  | .rx cp b => if cp = .frame then .ok (.rxAccept b) else .ok .rxStray

/-- The operation a code stands for, where it is one. -/
def Code.operation (c : Code) : Option Instr :=
  match decode c with
  | .ok i => some i
  | .error _ => none

/-! ### The encoder -/

/-- A code of each operation that has one. The row's match is written for a dispatched operation (the bits outside its
mask at 0). The invoked procedures have no encoding (R94; log 13). -/
def encode : Instr → Option Code
  | .topCheck => some (.dispatch 0x1100#13 0)
  | .probeStart => some (.dispatch 0x1000#13 0)
  | .frameStart => some (.dispatch 0x1080#13 0)
  | .probeOk => some (.dispatch 0x0040#13 0)
  | .probeFail => some (.dispatch 0x0140#13 0)
  | .frameDone => some (.dispatch 0x0230#13 0)
  | .frameBad => some (.dispatch 0x0220#13 0)
  | .decode => some (.dispatch 0x1200#13 0)
  | .decodeFs => some (.dispatch 0x1200#13 1)
  | .branch => some (.dispatch 0x1200#13 2)
  | .calEnter => some (.dispatch 0x1408#13 0)
  | .calExpand => some (.dispatch 0x140C#13 0)
  | .calExit => some (.dispatch 0x1404#13 0)
  | .calCommit => some (.dispatch 0x1402#13 0)
  | .calReject => some (.dispatch 0x1400#13 0)
  | .ackEnd => some (.dispatch 0x0C40#13 0)
  | .mixDegenerate => some (.dispatch 0x1600#13 0)
  | .mixOk => some (.dispatch 0x1601#13 0)
  | .pulse1On => some (.dispatch 0x0440#13 0)
  | .pulse1Off => some (.dispatch 0x0640#13 0)
  | .pulse2On => some (.dispatch 0x0840#13 0)
  | .pulse2Off => some (.dispatch 0x0A40#13 0)
  | .reservedCp7 => some (.dispatch 0x0E00#13 0)
  | .reservedCp12To15 => some (.dispatch 0x1800#13 0)
  | .stall => some (.dispatch 0x0000#13 0)
  | .frame gap f => some (.wire gap (packFrame f).toList)
  | .nvByte addr v => some (.storeByte addr v)
  | .desync | .nvLoad | .nvStore | .nvFormat => none
  | .norm | .thrMix | .thrRedist | .elvMix | .toPw => none
  | .reset fmtReq => some (.rstReleased fmtReq)
  | .tick => some .clockEdge
  | .run => some .tickPart2
  | .rxAccept b => some (.rx .frame b)
  | .rxStray => some (.rx .top 0#8)

/-! ### The table's words -/

/-- The low `n` bytes of `w`, least significant first. Which byte of R84's pattern string is the least significant of a table word
is open in the spec; here it is byte 0, the first to arrive (DESIGN CHOICE, log 26). -/
def tableBytes : Nat → Nat → List Byte
  | 0, _ => []
  | n + 1, w => BitVec.ofNat 8 w :: tableBytes n (w / 256)

/-- The code a word of spec/opcode_table.json stands for: one byte is a store byte (of slot 0, the table giving no
address), 25 bytes are a frame sent without gaps, and two bytes (or 13 bits) are a dispatch word (log 12, log 26). -/
def tableCode (nbits w : Nat) : Option Code :=
  if nbits = 8 then some (.storeByte 0#4 (BitVec.ofNat 8 w))
  else if nbits = 8 * Config.frameLen then some (.wire 0 (tableBytes Config.frameLen w))
  else if (nbits = 16 ∨ nbits = 13) ∧ w < 2 ^ 13 then some (.dispatch (BitVec.ofNat 13 w) 0)
  else none

/-- The operation the decoder reads from a word of spec/opcode_table.json. -/
def decodeTableWord (nbits w : Nat) : Option Instr := (tableCode nbits w).bind Code.operation

end Sys2Proof
end

