-- ==== Sys2Proof/Machine/State.lean ====
section
/-! DEFINITION. The state of the block (R20 to R37) as plain data, its value after RESET (R38), and the reasons a step can
stop. -/

namespace Sys2Proof.Machine

/-- The Calibration Engine's state (R31). -/
inductive CalState where
  | idle
  | calibrating
deriving DecidableEq, Repr

/-- The error events of R230 to R234: names for a trace, held in no register of the block. -/
inductive ErrorEvent where
  /-- Unexpected byte (R231). -/
  | ev1
  /-- Bad header or trailer (R232). -/
  | ev2
  /-- Calibration rejected (R233). -/
  | ev3
  /-- Degenerate range (R234). -/
  | ev4
deriving DecidableEq, Repr

/-- The levels of the input ports of R96 in one tick. `rxData` means something when `rxValid` is true, `fmtReq` when
RESET samples it (log 24; the `nv_*` ports: log 21). -/
structure Ports where
  rst : Bool
  fmtReq : Bool
  rxValid : Bool
  rxData : Byte
  calTrig : Bool
deriving DecidableEq, Repr

/-- The rational intermediates of the mixer (R186 to R190). In the block they live only inside MIX_OK (R43, R197); they
stand here so that each of its five steps is an operation by itself (log 9). -/
structure MixWork where
  norm : PerChannel Rat
  thr1 : Rat
  thr2 : Rat
  o : PerOutput Rat
deriving DecidableEq, Repr

/-- The store space (R60): a byte at each of the addresses 0 to 8, as the list of those that differ from what an
unlisted address reads as (`nvUnlisted`), addresses rising. -/
abbrev Memory := List Host.Cell

/-- The state of the block. The first seventeen fields are R20's, under the spec's names; the last five are the model's
own (see INVENTORY.md). -/
structure State where
  /-- R21 -/
  cp : ControlPoint
  /-- R22 -/
  idx : BitVec 5
  /-- R23: `FRAME_LEN` bytes; the length is written as a numeral so that the bound of a numeral index is one too -/
  F : Vector Byte 25
  /-- R24 -/
  now : Time
  /-- R25 -/
  T : Time
  /-- R26 -/
  dl : Time
  /-- R27 -/
  stray : Bool
  /-- R28 -/
  synchronized : Bool
  /-- R29 -/
  CH : PerChannel ChannelValue
  /-- R30 -/
  failsafeOut : Bool
  /-- R31 -/
  calState : CalState
  /-- R32 -/
  MIN : PerChannel Bound
  /-- R32 -/
  MAX : PerChannel Bound
  /-- R33 -/
  PW : PerOutput Width
  /-- R34 -/
  parity : Bool
  /-- R35 -/
  OUT : PerOutput Bool
  /-- R37, R60, R61 -/
  NV : Memory
  /-- MODEL: the two parameters of R8 (log 6). -/
  par : Params
  /-- MODEL: the input port levels of the current tick (R96; log 4). -/
  ports : Ports
  /-- MODEL: the input port levels of the coming clock edges, the event script (R98, R99; log 4). -/
  script : List Ports
  /-- MODEL: the error events of the current tick, oldest first (R230, R236; log 8). -/
  events : List ErrorEvent
  /-- MODEL: the mixer's intermediates (R43; log 9). -/
  work : MixWork
deriving DecidableEq, Repr

/-- A quiet line: no reset, no byte, the trigger released. -/
def Ports.quiet : Ports := ⟨false, false, false, 0#8, false⟩

/-- No intermediate value. -/
def MixWork.zero : MixWork := ⟨⟨0, 0, 0, 0⟩, 0, 0, ⟨0, 0, 0, 0⟩⟩

/-- Why a step stops. None can be raised by a step from a state that meets `Safe`. -/
inductive Fault where
  /-- RX_ACCEPT with `idx` 25 or more: there is no such byte of `F` (R22, R23). Raised by execRxAccept. SAFE: R22 says it
  does not happen. -/
  | frameIndex
  /-- A store access outside slots 0 to 7 (R63), which the block never makes. Raised by execNvByte. SAFE. -/
  | storeAddress
  /-- NORM with some `MAX[c] ≤ MIN[c]`: "a model never evaluates `linear` with `hi ≤ lo`" (U3). Raised by execNorm and, through
  it, execMixOk. SAFE: the dispatch word selects MIX_OK only where all ranges are good (R94). -/
  | degenerateRange
  /-- A chain longer than the model's fuel. Raised by execRun. SAFE: R119 bounds every chain by 10 operations. -/
  | chainOverrun
deriving DecidableEq, Repr

/-- Why an operation has no meaning. -/
inductive Refusal where
  /-- An operation of the table the model has no meaning for; exec raises it. SAFE. No arm does. -/
  | notModelled (mnemonic : String)
deriving DecidableEq, Repr

/-- The outcome of a step or an operation. -/
abbrev Result := Host.Outcome State Fault Refusal

/-- The block right after RESET (R38, R256), on a store that `fmt_req = 1` has formatted (R89, R258 (a); log 3). The
registers to which the spec gives no value hold 0 (DESIGN CHOICE, log 1); `ACK_HOLD_US` is not known (log 6). -/
def State.reset : State where
  cp := .top
  idx := 0#5
  F := Vector.replicate 25 0#8
  now := 0#32
  T := 0#32
  dl := 0#32
  stray := false
  synchronized := false
  CH := ⟨0#11, 0#11, 0#11, 0#11⟩
  failsafeOut := false
  calState := .idle
  MIN := PerChannel.of (fun _ => BitVec.ofNat 12 (Config.nvScale * Config.nvDefMin.toNat))
  MAX := PerChannel.of (fun _ => BitVec.ofNat 12 (Config.nvScale * Config.nvDefMax.toNat))
  PW := ⟨0#12, 0#12, 0#12, 0#12⟩
  parity := false
  OUT := ⟨false, false, false, false⟩
  NV := []
  par := ⟨SlotMap.identity, Config.ackHoldUs⟩
  ports := Ports.quiet
  script := []
  events := []
  work := MixWork.zero

end Sys2Proof.Machine
end

