-- ==== Sys2Proof/Machine/Ops.lean ====
section
/-! DEFINITION. The shared operations: sequencing of outcomes, the store and its two primitives (R62, R63), the conversion
of stored bytes (R88), control transfer (R118), DESYNC (R133), the store procedures (R167 to R169), and taking an error
event (R230 to R238). -/

namespace Sys2Proof.Machine

/-- One operation and then another: the second runs only from a next state of the first. -/
def andThen (r : Result) (f : State → Result) : Result :=
  match r with
  | .next s => f s
  | .fault e => .fault e
  | .refused e => .refused e

/-! ### The store (R60 to R63) -/

/-- The bytes of a formatted store (R89). -/
def formatByte (a : Nat) : Byte := if a % 2 = 0 then Config.nvDefMin else Config.nvDefMax

/-- What an address that the list does not name reads as: the bytes the format writes in slots 0 to 7 (R89), and 0 in slot 8
(DESIGN CHOICE, log 3). -/
def nvUnlisted (a : Nat) : Byte := if a < Config.nvUsed then formatByte a else 0#8

/-- The listed byte at an address. -/
def Memory.lookup : Memory → Nat → Option Byte
  | [], _ => none
  | (b, v) :: m, a => if a = b then some v else Memory.lookup m a

/-- The byte at an address. -/
def Memory.read (m : Memory) (a : Nat) : Byte := (Memory.lookup m a).getD (nvUnlisted a)

/-- The list with the entry `(a, v)`, in its place. -/
def Memory.put : Memory → Nat → Byte → Memory
  | [], a, v => [(a, v)]
  | (b, w) :: m, a, v =>
    if a < b then (a, v) :: (b, w) :: m
    else if a = b then (a, v) :: m
    else (b, w) :: Memory.put m a v

/-- The list without an entry for `a`. -/
def Memory.erase : Memory → Nat → Memory
  | [], _ => []
  | (b, w) :: m, a => if a = b then m else (b, w) :: Memory.erase m a

/-- The store with byte `v` at address `a`; a byte equal to what an unlisted address reads as is not listed. -/
def Memory.write (m : Memory) (a : Nat) (v : Byte) : Memory :=
  if v = nvUnlisted a then Memory.erase m a else Memory.put m a v

/-- The canonical form: addresses strictly rising, all below 9 (R60), no entry that an unlisted address reads as. -/
abbrev Memory.wf (m : Memory) : Prop :=
  m.Pairwise (fun x y => x.1 < y.1) ∧ ∀ x ∈ m, x.1 < Config.nvSlots ∧ x.2 ≠ nvUnlisted x.1

/-- R62: NvRead. -/
def State.nvRead (s : State) (a : Nat) : Byte := Memory.read s.NV a

/-- R63: NvWrite. -/
def State.nvWrite (s : State) (a : Nat) (v : Byte) : State := { s with NV := Memory.write s.NV a v }

/-! ### Stored bytes and range registers (R61, R88) -/

/-- R88: `raw = 10 × stored`. -/
def rawOfStored (v : Byte) : Bound := BitVec.ofNat 12 Config.nvScale * v.setWidth 12

/-- R88, R168: `stored = floor(raw / 10)`; a free value where that is no byte (log 17). -/
def storedOfRaw (raw : Bound) : Byte :=
  if raw.toNat / Config.nvScale < 256 then BitVec.ofNat 8 (raw.toNat / Config.nvScale)
  else Config.storedByteFree raw

/-- The channel whose bound a used slot holds (R61). -/
def slotChannel (a : Nat) : Channel :=
  match a / 2 with
  | 0 => .rudder
  | 1 => .throttle
  | 2 => .aileron
  | _ => .elevator

/-- The bound register of slot `a`: MIN of its channel in an even slot, MAX in an odd one (R61). -/
def State.bound (s : State) (a : Nat) : Bound :=
  if a % 2 = 0 then s.MIN.get (slotChannel a) else s.MAX.get (slotChannel a)

/-- The bound register of slot `a` takes the value `raw`. -/
def State.setBound (s : State) (a : Nat) (raw : Bound) : State :=
  if a % 2 = 0 then { s with MIN := s.MIN.set (slotChannel a) raw }
  else { s with MAX := s.MAX.set (slotChannel a) raw }

/-- The used slots in ascending address order (R168, R169). -/
def usedSlots : List Nat := List.range Config.nvUsed

/-- R167: NV_LOAD: `MIN[c] <- 10 × NvRead(2c)`, `MAX[c] <- 10 × NvRead(2c + 1)`. -/
def State.nvLoad (s : State) : State :=
  { s with
    MIN := PerChannel.of (fun c => rawOfStored (s.nvRead (2 * c.index)))
    MAX := PerChannel.of (fun c => rawOfStored (s.nvRead (2 * c.index + 1))) }

/-- Writes of the used slots in ascending order, slot `a` with the byte `g a`. -/
def writeUsed (m : Memory) (g : Nat → Byte) : Memory :=
  usedSlots.foldl (fun m a => Memory.write m a (g a)) m

/-- R168: NV_STORE: every used slot takes the stored byte of its bound. -/
def State.nvStore (s : State) : State :=
  { s with NV := writeUsed s.NV (fun a => storedOfRaw (s.bound a)) }

/-- R169: NV_FORMAT. -/
def State.nvFormat (s : State) : State := { s with NV := writeUsed s.NV formatByte }

/-! ### Control transfer and error events -/

/-- `cp <- X` (R12, R118). -/
def State.goto (s : State) (c : ControlPoint) : State := { s with cp := c }

/-- R133: DESYNC. -/
def State.desync (s : State) : State := { s with synchronized := false, stray := false }

/-- `raise EVn`: the event enters the trace and nothing else is recorded (R230, R237). -/
def State.record (s : State) (e : ErrorEvent) : State := { s with events := s.events ++ [e] }

/-- The recovery action of an event (R231 to R234): DESYNC, DESYNC, NV_LOAD, nothing. -/
def State.recover (s : State) : ErrorEvent → State
  | .ev1 => s.desync
  | .ev2 => s.desync
  | .ev3 => s.nvLoad
  | .ev4 => s

/-- Taking an error event: it is recorded and its recovery action is performed in place; nothing is saved and no mode changes
(R230, R237). -/
def State.takeEvent (s : State) (e : ErrorEvent) : State := (s.record e).recover e

/-- What stands for a return: after the recovery the control sequence continues at TOP (R238). -/
def State.resumeAtTop (s : State) : State := s.goto .top

/-! ### Outputs (R36, R96) -/

/-- The output port levels of R96 (log 25), but for the `nv_*` ports (R64, R97; log 21). -/
structure Outputs where
  thr1Out : Bool
  thr2Out : Bool
  elv1Out : Bool
  elv2Out : Bool
  syncInd : Bool
  failsafeOut : Bool
  calAck : Bool
deriving DecidableEq, Repr

/-- The outputs of a state: all 0 while `rst = 1` (R256), else the registers, `sync_ind = synchronized` and `cal_ack` where
`cp = ACK` (R36). -/
def State.outputs (s : State) : Outputs :=
  if s.ports.rst then ⟨false, false, false, false, false, false, false⟩
  else ⟨s.OUT.thr1, s.OUT.thr2, s.OUT.elv1, s.OUT.elv2, s.synchronized, s.failsafeOut, decide (s.cp = .ack)⟩

end Sys2Proof.Machine
end

