-- ==== Sys2Proof/Machine/Operands.lean ====
section
/-! DEFINITION. The operands of the operations: output lines by parity (R211), decoded fields of the frame buffer (R85, R150,
R153), and the mixer's arithmetic (R186 to R194). -/

namespace Sys2Proof.Machine

/-! ### The scheduler's lines (R211) -/

/-- Slot 1's line `k1`: elv1 for parity 0, thr1 for parity 1. -/
def slot1Line (parity : Bool) : Output := if parity then .thr1 else .elv1

/-- Slot 2's line `k2 = k1 + 1`. -/
def slot2Line (parity : Bool) : Output := if parity then .thr2 else .elv2

/-- A PulseWidth as a number of ticks (zero extension, R12). -/
def ticks (w : Width) : Time := w.setWidth 32

/-! ### The frame buffer's fields -/

/-- `F[23][3]` (R81, R153). -/
def failsafeBit (F : Vector Byte 25) : Bool := (F[Config.fsByte]'(by decide)).getLsbD Config.fsBit

/-- R152: the four channel values, channel c from slot `CH_SLOT[c]`. -/
def decodedChannels (m : SlotMap) (F : Vector Byte 25) : PerChannel ChannelValue :=
  PerChannel.of (fun c => slotOf F (m.get c).val)

/-! ### The mixer's arithmetic: exact rationals (R11, R197) -/

/-- R188: `linear(lo, hi, v) = (v − lo) / (hi − lo)`, meant for `lo < hi`. -/
def linear (lo hi v : Int) : Rat := ((v - lo : Int) : Rat) / ((hi - lo : Int) : Rat)

/-- R11, R188. -/
def clamp01 (q : Rat) : Rat := max 0 (min 1 q)

/-- R186: the normalized value of a channel. -/
def normalize (lo hi : Bound) (v : ChannelValue) : Rat :=
  clamp01 (linear lo.toNat hi.toNat v.toNat)

/-- R187: `diff = 2 × (rN − 1/2)`. -/
def rudderDiff (rN : Rat) : Rat := 2 * (rN - 1 / 2)

/-- R187: `thr1 = tN × (1 + diff × 4/5)`. -/
def throttle1 (rN tN : Rat) : Rat := tN * (1 + rudderDiff rN * Config.diffAuth)

/-- R187: `thr2 = tN × (1 − diff × 4/5)`. -/
def throttle2 (rN tN : Rat) : Rat := tN * (1 - rudderDiff rN * Config.diffAuth)

/-- R189: the part of a throttle command above 1. -/
def excess (thr : Rat) : Rat := max 0 (thr - 1)

/-- R190: `elv1 = eN + aN − 1/2`. -/
def elevator1 (eN aN : Rat) : Rat := eN + aN - 1 / 2

/-- R190: `elv2 = eN − aN + 1/2`. -/
def elevator2 (eN aN : Rat) : Rat := eN - aN + 1 / 2

/-- R192: `scaled = MIN + floor(o × (MAX − MIN))`. -/
def scaledValue (lo hi : Bound) (o : Rat) : Int :=
  (lo.toNat : Int) + ⌊o * (((hi.toNat : Int) - (lo.toNat : Int) : Int) : Rat)⌋

/-- R194: `880 + floor(scaled × 13 / 20)`. -/
def pulseWidthInt (scaled : Int) : Int := Config.pwBase + ⌊(scaled : Rat) * Config.pwScale⌋

/-- A pulse width in its u12 register; a free value where R194's integer is none (log 18). -/
def narrowWidth (x : Int) : Width :=
  if 0 ≤ x ∧ x < 4096 then BitVec.ofInt 12 x else Config.pulseWidthFree x

/-- R192, R194: one normalized output through its channel's range. -/
def toPulseWidth (lo hi : Bound) (o : Rat) : Width := narrowWidth (pulseWidthInt (scaledValue lo hi o))

end Sys2Proof.Machine
end

