-- ==== Sys2Proof/Machine/Flags.lean ====
section
/-! DEFINITION. The guard bits of the dispatch word and the word itself (R24, R82, R93, R166, R185). -/

namespace Sys2Proof.Machine

/-- R12, R24: `reached(d) = ((now − d) mod 2^32) < 2^31`. -/
def reached (now d : Time) : Bool := decide ((now - d).toNat < 2 ^ 31)

/-- The control points at which `dl` is read (R93, R26): the waiting ones but FRAME. -/
def readsDeadline : ControlPoint → Bool
  | .probe | .wait1 | .hold1 | .wait2 | .hold2 | .ack => true
  | .frame | .top | .cycle | .cal | .mix => false
  | .reserved7 | .reserved12 | .reserved13 | .reserved14 | .reserved15 => false

/-- The codes of `cp` that R92 reserves (R95). -/
def isReserved : ControlPoint → Bool
  | .reserved7 | .reserved12 | .reserved13 | .reserved14 | .reserved15 => true
  | .probe | .frame | .wait1 | .hold1 | .wait2 | .hold2 | .ack => false
  | .top | .cycle | .cal | .mix => false

/-- `g_reached` (R93). -/
def State.gReached (s : State) : Bool := readsDeadline s.cp && reached s.now s.dl

/-- `g_full` (R93): `idx = 25`. -/
def State.gFull (s : State) : Bool := s.idx == BitVec.ofNat 5 Config.frameLen

/-- R82: the header and the trailer are right. -/
def State.markersGood (s : State) : Bool := s.F[0] == Config.header && (s.F[Config.frameLen - 1]'(by decide)) == Config.trailer

/-- `g_marker` (R93): taken as 0 unless `g_full = 1` at FRAME. -/
def State.gMarker (s : State) : Bool := decide (s.cp = .frame) && s.gFull && s.markersGood

/-- `g_cal` (R93). -/
def State.gCal (s : State) : Bool := decide (s.calState = .calibrating)

/-- One channel's part of R166: `MAX − MIN > 600` as integers. -/
def spanGood (lo hi : Bound) : Bool := decide (lo.toNat + Config.calSpanMin < hi.toNat)

/-- `g_span` (R93, R166): all four spans. -/
def State.gSpan (s : State) : Bool :=
  spanGood s.MIN.rudder s.MAX.rudder && spanGood s.MIN.throttle s.MAX.throttle &&
    spanGood s.MIN.aileron s.MAX.aileron && spanGood s.MIN.elevator s.MAX.elevator

/-- One channel's part of `g_range`: `MAX > MIN`. -/
def rangeGood (lo hi : Bound) : Bool := decide (lo.toNat < hi.toNat)

/-- `g_range` (R93, R185): all four ranges. -/
def State.gRange (s : State) : Bool :=
  rangeGood s.MIN.rudder s.MAX.rudder && rangeGood s.MIN.throttle s.MAX.throttle &&
    rangeGood s.MIN.aileron s.MAX.aileron && rangeGood s.MIN.elevator s.MAX.elevator

/-- The dispatch word (R93), bit 12 first. -/
def State.dispatchWord (s : State) : BitVec 13 :=
  s.cp.code ++ BitVec.ofBool s.stray ++ BitVec.ofBool s.synchronized ++ BitVec.ofBool s.gReached ++
    BitVec.ofBool s.gFull ++ BitVec.ofBool s.gMarker ++ BitVec.ofBool s.ports.calTrig ++ BitVec.ofBool s.gCal ++
    BitVec.ofBool s.gSpan ++ BitVec.ofBool s.gRange

end Sys2Proof.Machine
end

