-- ==== Sys2Proof/Machine/Calibration.lean ====
section
/-! DEFINITION. The Calibration Engine and the store (spec/43_calibration.md, R88): the meanings of CAL_ENTER, CAL_EXPAND,
CAL_EXIT, CAL_COMMIT, CAL_REJECT, ACK_END, NV_LOAD, NV_STORE, NV_FORMAT and NV_BYTE. -/

namespace Sys2Proof.Machine

/-- R162: the smaller of a bound and a channel value. -/
def lowerBound (b : Bound) (v : ChannelValue) : Bound :=
  if (v.setWidth 12).toNat < b.toNat then v.setWidth 12 else b

/-- R162: the larger of a bound and a channel value. -/
def upperBound (b : Bound) (v : ChannelValue) : Bound :=
  if b.toNat < (v.setWidth 12).toNat then v.setWidth 12 else b

/-- R167. -/
def execNvLoad (s : State) : Result := .next s.nvLoad

/-- R168. -/
def execNvStore (s : State) : Result := .next s.nvStore

/-- R169. -/
def execNvFormat (s : State) : Result := .next s.nvFormat

/-- R88, R61: the bound that a stored byte `v` of slot `addr` stands for, `10 × v`, in its register: what NV_LOAD does for one
slot (log 12). Slots 0 to 7 hold bounds and the block accesses no other (R63). -/
def execNvByte (addr : BitVec 4) (v : Byte) (s : State) : Result :=
  if addr.toNat < Config.nvUsed then .next (s.setBound addr.toNat (rawOfStored v))
  else .fault .storeAddress

/-- R161: `cal_state <- CALIBRATING`, every bound takes 1000; `cp` stays. -/
def execCalEnter (s : State) : Result :=
  .next { s with
    calState := .calibrating
    MIN := PerChannel.of (fun _ => Config.calSentinel)
    MAX := PerChannel.of (fun _ => Config.calSentinel) }

/-- R162: every range widens to this frame's value; `cp <- TOP`. -/
def execCalExpand (s : State) : Result :=
  .next ({ s with
    MIN := PerChannel.of (fun c => lowerBound (s.MIN.get c) (s.CH.get c))
    MAX := PerChannel.of (fun c => upperBound (s.MAX.get c) (s.CH.get c)) }.goto .top)

/-- R163: `cal_state <- IDLE`; `cp` stays. -/
def execCalExit (s : State) : Result := .next { s with calState := .idle }

/-- R164: NV_STORE, `dl <- now + ACK_HOLD_US`, `cp <- ACK`. -/
def execCalCommit (s : State) : Result :=
  andThen (execNvStore s) fun t =>
    .next ({ t with dl := t.now + t.par.ackHoldUs.setWidth 32 }.goto .ack)

/-- R165: EV3 with its recovery (NV_LOAD), `cp <- TOP`. -/
def execCalReject (s : State) : Result := .next (s.takeEvent .ev3).resumeAtTop

/-- R170: `cp <- TOP`. -/
def execAckEnd (s : State) : Result := .next (s.goto .top)

end Sys2Proof.Machine
end

