-- ==== Sys2Proof/Machine/Decoder.lean ====
section
/-! DEFINITION. The Frame Decoder (spec/42_decoder.md): the meanings of DECODE and DECODE_FS. -/

namespace Sys2Proof.Machine

/-- R152: `CH[c] <- slot(CH_SLOT[c])`. -/
def execDecode (s : State) : Result := .next { s with CH := decodedChannels s.par.chSlot s.F }

/-- R153: `failsafe_out <- F[23][3]`. -/
def execDecodeFs (s : State) : Result := .next { s with failsafeOut := failsafeBit s.F }

end Sys2Proof.Machine
end

