-- ==== Sys2Proof/Machine/Mixer.lean ====
section
/-! DEFINITION. The Mixer (spec/44_mixer.md): the meanings of MIX_DEGENERATE, MIX_OK and its five steps NORM, THR_MIX,
THR_REDIST, ELV_MIX, TO_PW. The steps pass their rationals on in `work` (log 9). -/

namespace Sys2Proof.Machine

/-- R185: EV4, which repairs nothing; `cp <- TOP`. -/
def execMixDegenerate (s : State) : Result := .next (s.takeEvent .ev4).resumeAtTop

/-- R186: the four normalized values, for ranges that are all good (log 15). -/
def execNorm (s : State) : Result :=
  if s.gRange then
    .next { s with work := { s.work with
      norm := PerChannel.of (fun c => normalize (s.MIN.get c) (s.MAX.get c) (s.CH.get c)) } }
  else .fault .degenerateRange

/-- R187. -/
def execThrMix (s : State) : Result :=
  .next { s with work := { s.work with
    thr1 := throttle1 s.work.norm.rudder s.work.norm.throttle
    thr2 := throttle2 s.work.norm.rudder s.work.norm.throttle } }

/-- R189: `o[0]` and `o[1]`. -/
def execThrRedist (s : State) : Result :=
  .next { s with work := { s.work with
    o := { s.work.o with
      thr1 := clamp01 (s.work.thr1 - excess s.work.thr2)
      thr2 := clamp01 (s.work.thr2 - excess s.work.thr1) } } }

/-- R190: `o[2]` and `o[3]`. -/
def execElvMix (s : State) : Result :=
  .next { s with work := { s.work with
    o := { s.work.o with
      elv1 := clamp01 (elevator1 s.work.norm.elevator s.work.norm.aileron)
      elv2 := clamp01 (1 - elevator2 s.work.norm.elevator s.work.norm.aileron) } } }

/-- R192 to R194: the four pulse widths, the throttle pair through the throttle range and the elevator pair through the elevator
range. -/
def execToPw (s : State) : Result :=
  .next { s with PW :=
    ⟨toPulseWidth s.MIN.throttle s.MAX.throttle s.work.o.thr1,
     toPulseWidth s.MIN.throttle s.MAX.throttle s.work.o.thr2,
     toPulseWidth s.MIN.elevator s.MAX.elevator s.work.o.elv1,
     toPulseWidth s.MIN.elevator s.MAX.elevator s.work.o.elv2⟩ }

/-- R196: the five steps in order, `dl <- T + 1000`, `cp <- WAIT1`. The intermediates live only inside the operation (R43),
so `work` is left as it was. -/
def execMixOk (s : State) : Result :=
  andThen (execNorm s) fun s1 =>
  andThen (execThrMix s1) fun s2 =>
  andThen (execThrRedist s2) fun s3 =>
  andThen (execElvMix s3) fun s4 =>
  andThen (execToPw s4) fun s5 =>
    .next ({ s5 with work := s.work, dl := s5.T + Config.slot1Us }.goto .wait1)

end Sys2Proof.Machine
end

