-- ==== Sys2Proof/Machine/Scheduler.lean ====
section
/-! DEFINITION. The Pulse Scheduler (spec/45_scheduler.md): the meanings of PULSE1_ON, PULSE1_OFF, PULSE2_ON, PULSE2_OFF. -/

namespace Sys2Proof.Machine

/-- A line rises, to be held for its pulse width from now (R212, R215). -/
def State.assertLine (s : State) (k : Output) : State :=
  { s with OUT := s.OUT.set k true, dl := s.now + ticks (s.PW.get k) }

/-- A line falls (R213, R216). -/
def State.deassertLine (s : State) (k : Output) : State := { s with OUT := s.OUT.set k false }

/-- R212: `OUT[k1] <- 1; dl <- now + PW[k1]; cp <- HOLD1`. -/
def execPulse1On (s : State) : Result := .next ((s.assertLine (slot1Line s.parity)).goto .hold1)

/-- R213: `OUT[k1] <- 0; dl <- T + 4000; cp <- WAIT2`. -/
def execPulse1Off (s : State) : Result :=
  .next ({ s.deassertLine (slot1Line s.parity) with dl := s.T + Config.slot2Us }.goto .wait2)

/-- R215: `OUT[k2] <- 1; dl <- now + PW[k2]; cp <- HOLD2`. -/
def execPulse2On (s : State) : Result := .next ((s.assertLine (slot2Line s.parity)).goto .hold2)

/-- R216: `OUT[k2] <- 0; parity <- 1 − parity; cp <- TOP`, the line by the parity before the toggle. -/
def execPulse2Off (s : State) : Result :=
  .next ({ s.deassertLine (slot2Line s.parity) with parity := !s.parity }.goto .top)

end Sys2Proof.Machine
end

