-- ==== Sys2Proof/Machine/Synchronizer.lean ====
section
/-! DEFINITION. The Frame Synchronizer (spec/41_synchronizer.md): the meanings of RX_ACCEPT, RX_STRAY, DESYNC, TOP_CHECK,
PROBE_START, PROBE_OK, PROBE_FAIL, FRAME_START, FRAME_DONE, FRAME_BAD. -/

namespace Sys2Proof.Machine

/-- R131: `F[idx] <- b; idx <- idx + 1`. There is no byte of `F` at 25 or above (R22, R23; log 16). -/
def execRxAccept (b : Byte) (s : State) : Result :=
  if h : s.idx.toNat < Config.frameLen then .next { s with F := s.F.set s.idx.toNat b h, idx := s.idx + 1#5 }
  else .fault .frameIndex

/-- R132: `stray <- 1`. -/
def execRxStray (s : State) : Result := .next { s with stray := true }

/-- R133. -/
def execDesync (s : State) : Result := .next s.desync

/-- R134: EV1 with its recovery; `cp` stays. -/
def execTopCheck (s : State) : Result := .next (s.takeEvent .ev1)

/-- R141: `dl <- now + 100; cp <- PROBE`. -/
def execProbeStart (s : State) : Result :=
  .next ({ s with dl := s.now + Config.syncProbeUs }.goto .probe)

/-- R135: `synchronized <- 1; cp <- TOP`. -/
def execProbeOk (s : State) : Result := .next ({ s with synchronized := true }.goto .top)

/-- R136: `stray <- 0; cp <- TOP`. -/
def execProbeFail (s : State) : Result := .next ({ s with stray := false }.goto .top)

/-- R137: `idx <- 0; cp <- FRAME`. -/
def execFrameStart (s : State) : Result := .next ({ s with idx := 0#5 }.goto .frame)

/-- R139: `T <- now; cp <- CYCLE`. -/
def execFrameDone (s : State) : Result := .next ({ s with T := s.now }.goto .cycle)

/-- R140: `T <- now`, EV2 with its recovery, `cp <- TOP`. -/
def execFrameBad (s : State) : Result := .next ({ s with T := s.now }.takeEvent .ev2).resumeAtTop

end Sys2Proof.Machine
end

