-- ==== Sys2Proof/Machine/Control.lean ====
section
/-! DEFINITION. Cycle control and reset (spec/40_cycle_control.md, spec/70_reset_and_hazards.md): the meanings of STALL, BRANCH,
the reserved rows, RUN, TICK, RESET, and of FRAME, the reception of a group of 25 bytes (R84, R100). -/

namespace Sys2Proof.Machine

/-- R113: nothing is written; the chain stops. -/
def execStall (s : State) : Result := .next s

/-- R95: no operation; the chain stops and the state is frozen (log 7). -/
def execReservedCp7 (s : State) : Result := .next s

/-- R95: no operation; the chain stops and the state is frozen (log 7). -/
def execReservedCp12To15 (s : State) : Result := .next s

/-- R116: CAL if the trigger is asserted or a session is open, else MIX. -/
def execBranch (s : State) : Result :=
  .next (s.goto (if s.ports.calTrig || s.gCal then .cal else .mix))

/-! ### RUN (R112) -/

/-- The rows at which the chain stops: STALL and the reserved ones (R112). -/
def isStop : Instr → Bool
  | .stall | .reservedCp7 | .reservedCp12To15 => true
  | .topCheck | .probeStart | .frameStart | .probeOk | .probeFail | .frameDone | .frameBad => false
  | .decode | .decodeFs | .branch => false
  | .calEnter | .calExpand | .calExit | .calCommit | .calReject | .ackEnd => false
  | .mixDegenerate | .mixOk | .pulse1On | .pulse1Off | .pulse2On | .pulse2Off => false
  | .frame _ _ | .nvByte _ _ => false
  | .desync | .nvLoad | .nvStore | .nvFormat => false
  | .norm | .thrMix | .thrRedist | .elvMix | .toPw => false
  | .reset _ | .tick | .run | .rxAccept _ | .rxStray => false

/-- The operation of a row of the operation map. The other rows of the table are selected by no dispatch word (R94) and
nothing is performed for them here. -/
def perform : Instr → State → Result
  | .topCheck, s => execTopCheck s
  | .probeStart, s => execProbeStart s
  | .frameStart, s => execFrameStart s
  | .probeOk, s => execProbeOk s
  | .probeFail, s => execProbeFail s
  | .frameDone, s => execFrameDone s
  | .frameBad, s => execFrameBad s
  | .decode, s => execDecode s
  | .decodeFs, s => execDecodeFs s
  | .branch, s => execBranch s
  | .calEnter, s => execCalEnter s
  | .calExpand, s => execCalExpand s
  | .calExit, s => execCalExit s
  | .calCommit, s => execCalCommit s
  | .calReject, s => execCalReject s
  | .ackEnd, s => execAckEnd s
  | .mixDegenerate, s => execMixDegenerate s
  | .mixOk, s => execMixOk s
  | .pulse1On, s => execPulse1On s
  | .pulse1Off, s => execPulse1Off s
  | .pulse2On, s => execPulse2On s
  | .pulse2Off, s => execPulse2Off s
  | .reservedCp7, s => execReservedCp7 s
  | .reservedCp12To15, s => execReservedCp12To15 s
  | .stall, s => execStall s
  | .frame _ _, s | .nvByte _ _, s => .next s
  | .desync, s | .nvLoad, s | .nvStore, s | .nvFormat, s => .next s
  | .norm, s | .thrMix, s | .thrRedist, s | .elvMix, s | .toPw, s => .next s
  | .reset _, s | .tick, s | .run, s | .rxAccept _, s | .rxStray, s => .next s

/-- Operations one after the other, in order. -/
def performAll : List Instr → State → Result
  | [], s => .next s
  | i :: is, s => andThen (perform i s) (performAll is)

/-- The operations that the control sequence performs next (R93, R94). -/
def State.selectedOps (s : State) : List Instr := selected s.dispatchWord

/-- R112: the chain, with at most `n` selections. -/
def chain : Nat → State → Result
  | 0, _ => .fault .chainOverrun
  | n + 1, s =>
    if s.selectedOps.any isStop then performAll s.selectedOps s
    else andThen (performAll s.selectedOps s) (chain n)

/-- More selections than any chain makes: R119 bounds a chain by 10 operations (log 23). -/
def chainFuel : Nat := 12

/-- R112: RUN. -/
def execRun (s : State) : Result := chain chainFuel s

/-! ### TICK (R111) -/

/-- R111, part 1: the arriving byte is booked, using the `cp` the tick began with. -/
def bookByte (s : State) : Result :=
  if s.ports.rxValid then
    if s.cp = .frame then execRxAccept s.ports.rxData s else execRxStray s
  else .next s

/-- R111, part 3: `now <- (now + 1) mod 2^32`. -/
def State.advanceClock (s : State) : State := { s with now := s.now + 1#32 }

/-- R111: TICK, with the input levels of `ports`. The trace begins anew with each tick (log 8). At a reserved code of `cp` the
block is stuck (R95): the state is frozen (U7), so parts 1 and 3 do nothing, and RUN finds the reserved row (log 7). -/
def execTick (s : State) : Result :=
  let s0 := { s with events := [] }
  if isReserved s.cp then execRun s0
  else
    andThen (bookByte s0) fun s1 =>
    andThen (execRun s1) fun s2 => .next s2.advanceClock

/-! ### RESET (R256) -/

/-- R256: RESET. `F`, `T`, `dl`, `CH`, `PW` are left without a value by the spec and take the values they have in `State.reset`
(DESIGN CHOICE, log 2); `NV[8]` is not touched. -/
def execReset (fmtReq : Bool) (s : State) : Result :=
  let s1 := if fmtReq then s.nvFormat else s
  .next { s1.nvLoad with
    cp := .top
    idx := 0#5
    now := 0#32
    stray := false
    synchronized := false
    failsafeOut := false
    calState := .idle
    parity := false
    OUT := ⟨false, false, false, false⟩
    F := State.reset.F
    T := State.reset.T
    dl := State.reset.dl
    CH := State.reset.CH
    PW := State.reset.PW
    events := []
    work := MixWork.zero }

/-! ### Clock edges, and the reception of a frame -/

/-- One clock edge with the input levels `p`: the block is held while `rst = 1`, and every edge with `rst = 0` is a TICK, before
which RESET is performed where `rst` falls (R96, R111, R256; log 5). -/
def clockEdge (p : Ports) (s : State) : Result :=
  if p.rst then .next { s with ports := p }
  else if s.ports.rst then andThen (execReset p.fmtReq { s with ports := p }) execTick
  else execTick { s with ports := p }

/-- Clock edges one after the other. -/
def clockEdges : List Ports → State → Result
  | [], s => .next s
  | p :: ps, s => andThen (clockEdge p s) (clockEdges ps)

/-- R99, `RX b`: a tick that delivers a byte, the other levels as in `p`. -/
def rxEdge (p : Ports) (b : Byte) : Ports := { p with rxValid := true, rxData := b }

/-- R99, one tick of `IDLE`: no byte, the other levels as in `p`. -/
def idleEdge (p : Ports) : Ports := { p with rxValid := false }

/-- R100, `FRAME g: b0 … b24`: `RX b0`, `IDLE g−1`, `RX b1`, …, `RX b24`, nothing after the last byte; here `gap` is `g − 1`. -/
def frameEdges (gap : Nat) (p : Ports) : List Byte → List Ports
  | [] => []
  | [b] => [rxEdge p b]
  | b :: bs => rxEdge p b :: (List.replicate gap (idleEdge p) ++ frameEdges gap p bs)

/-- FRAME (R84, R100): the block receives the 25 bytes, one every `gap + 1` ticks, the other input levels held (log 11). -/
def execFrame (gap : Nat) (f : WireFrame) (s : State) : Result :=
  clockEdges (frameEdges gap s.ports (packFrame f).toList) s

end Sys2Proof.Machine
end

