-- ==== Sys2Proof/Machine/Fetch.lean ====
section
/-! DEFINITION. What the next step performs: the coming clock edge, taken from the event script, selects RESET and TICK by its
ports (R94, R96, R98). -/

namespace Sys2Proof.Machine

/-- The codes that the coming edge's levels present to the decoder, in order: none while `rst = 1` (the block is held), else a clock
edge, and before it the release of `rst` where it falls (R96, R111, R256; log 5). -/
def edgeCodes (before edge : Ports) : List Code :=
  if edge.rst then []
  else if before.rst then [.rstReleased edge.fmtReq, .clockEdge]
  else [.clockEdge]

/-- The input levels of the coming edge: the next of the script, and a quiet line with the levels held after its end (log 4). -/
def State.nextPorts (s : State) : Ports :=
  match s.script with
  | [] => idleEdge s.ports
  | p :: _ => p

/-- The state in which the coming edge's operation is performed: its levels are on the ports and it is taken from the script. -/
def State.atEdge (s : State) : State := { s with ports := s.nextPorts, script := s.script.tail }

/-- The operations that the coming edge selects, by the decoder, in order; none while the block is held in reset. -/
def State.fetch (s : State) : List Instr := (edgeCodes s.ports s.nextPorts).filterMap Code.operation

/-! ### Presenting a word of the opcode table -/

/-- Input levels for a tick without a byte and with this trigger. -/
def tickPorts (trig : Bool) : Ports := ⟨false, false, false, 0#8, trig⟩

/-- Bounds 0 and `hi` on every channel. -/
def State.withRanges (s : State) (hi : Bound) : State :=
  { s with MIN := PerChannel.of (fun _ => 0#12), MAX := PerChannel.of (fun _ => hi) }

/-- The upper bound that makes `g_span` and `g_range` what the word asks; where the word asks for spans above 600 and for a
degenerate range together, which no state has, the one that its control point looks at. -/
def presentedMax (c : ControlPoint) (gSpan gRange : Bool) : Bound :=
  if c = .mix ∧ gRange = false then 0#12
  else if gSpan then 1000#12
  else if gRange then 100#12
  else 0#12

/-- A state that the control sequence dispatches on the word `dw` in its next tick, which delivers no byte (R93; log 22). -/
def State.presentDispatch (s : State) (dw : BitVec 13) : State :=
  let c := ControlPoint.ofCode (dw.extractLsb' 9 4)
  { s.withRanges (presentedMax c (dw.getLsbD 1) (dw.getLsbD 0)) with
    cp := c
    stray := dw.getLsbD 8
    synchronized := dw.getLsbD 7
    dl := if dw.getLsbD 6 then s.now else s.now + 1#32
    idx := if dw.getLsbD 5 then BitVec.ofNat 5 Config.frameLen else 0#5
    F := (s.F.set 0 (if dw.getLsbD 4 then Config.header else ~~~Config.header)).set (Config.frameLen - 1) Config.trailer (by decide)
    calState := if dw.getLsbD 2 then .calibrating else .idle
    ports := { s.ports with rst := false }
    script := tickPorts (dw.getLsbD 3) :: s.script }

/-- A state that has received bytes 0 to 23 of a frame and is delivered byte 24 in its next tick (R131, R139; log 22). -/
def State.presentFrame (s : State) (F : Vector Byte 25) : State :=
  { s with
    cp := .frame
    synchronized := true
    stray := false
    idx := BitVec.ofNat 5 (Config.frameLen - 1)
    F := F
    ports := { s.ports with rst := false }
    script := rxEdge (tickPorts false) (F[Config.frameLen - 1]'(by decide)) :: s.script }

/-- A state held in reset with the byte `v` in slot 0 of the store, and `rst` released at its next edge, which loads it (R256;
log 22). -/
def State.presentStoreByte (s : State) (v : Byte) : State :=
  { s.nvWrite 0 v with
    ports := { s.ports with rst := true }
    script := tickPorts false :: s.script }

/-- The 25 bytes of a table word, byte 0 (the first to arrive) in its least significant byte: which end of R84's pattern string is
the least significant is open in the spec (DESIGN CHOICE, log 26). -/
def tableFrame (w : Nat) : Vector Byte 25 := Vector.ofFn (fun i : Fin Config.frameLen => BitVec.ofNat 8 (w / 256 ^ i.val))

end Sys2Proof.Machine
end

