-- ==== Sys2Proof/Machine/Dispatch.lean ====
section
/-! DEFINITION. The operations of the table and their meanings, one arm each. A meaning is the operation's pseudocode in
every state; where it is performed is the dispatch word's business (log 14). -/

namespace Sys2Proof.Machine

def exec (i : Instr) (s : State) : Host.Outcome State Fault Refusal :=
  match i with
  | .topCheck => Sys2Proof.Machine.execTopCheck s
  | .probeStart => Sys2Proof.Machine.execProbeStart s
  | .frameStart => Sys2Proof.Machine.execFrameStart s
  | .probeOk => Sys2Proof.Machine.execProbeOk s
  | .probeFail => Sys2Proof.Machine.execProbeFail s
  | .frameDone => Sys2Proof.Machine.execFrameDone s
  | .frameBad => Sys2Proof.Machine.execFrameBad s
  | .decode => Sys2Proof.Machine.execDecode s
  | .decodeFs => Sys2Proof.Machine.execDecodeFs s
  | .branch => Sys2Proof.Machine.execBranch s
  | .calEnter => Sys2Proof.Machine.execCalEnter s
  | .calExpand => Sys2Proof.Machine.execCalExpand s
  | .calExit => Sys2Proof.Machine.execCalExit s
  | .calCommit => Sys2Proof.Machine.execCalCommit s
  | .calReject => Sys2Proof.Machine.execCalReject s
  | .ackEnd => Sys2Proof.Machine.execAckEnd s
  | .mixDegenerate => Sys2Proof.Machine.execMixDegenerate s
  | .mixOk => Sys2Proof.Machine.execMixOk s
  | .pulse1On => Sys2Proof.Machine.execPulse1On s
  | .pulse1Off => Sys2Proof.Machine.execPulse1Off s
  | .pulse2On => Sys2Proof.Machine.execPulse2On s
  | .pulse2Off => Sys2Proof.Machine.execPulse2Off s
  | .reservedCp7 => Sys2Proof.Machine.execReservedCp7 s
  | .reservedCp12To15 => Sys2Proof.Machine.execReservedCp12To15 s
  | .stall => Sys2Proof.Machine.execStall s
  | .frame gap f => Sys2Proof.Machine.execFrame gap f s
  | .nvByte addr v => Sys2Proof.Machine.execNvByte addr v s
  | .desync => Sys2Proof.Machine.execDesync s
  | .nvLoad => Sys2Proof.Machine.execNvLoad s
  | .nvStore => Sys2Proof.Machine.execNvStore s
  | .nvFormat => Sys2Proof.Machine.execNvFormat s
  | .norm => Sys2Proof.Machine.execNorm s
  | .thrMix => Sys2Proof.Machine.execThrMix s
  | .thrRedist => Sys2Proof.Machine.execThrRedist s
  | .elvMix => Sys2Proof.Machine.execElvMix s
  | .toPw => Sys2Proof.Machine.execToPw s
  | .reset fmtReq => Sys2Proof.Machine.execReset fmtReq s
  | .tick => Sys2Proof.Machine.execTick s
  | .run => Sys2Proof.Machine.execRun s
  | .rxAccept b => Sys2Proof.Machine.execRxAccept b s
  | .rxStray => Sys2Proof.Machine.execRxStray s

end Sys2Proof.Machine
end

