-- ==== Sys2Proof/Machine/Sequence.lean ====
section
/-! DEFINITION. Operations performed one after the other. -/

namespace Sys2Proof.Machine

/-- Operations of the table performed one after the other. -/
def execAll : List Instr → State → Result
  | [], s => .next s
  | i :: is, s => andThen (exec i s) (execAll is)

end Sys2Proof.Machine
end

