-- ==== Sys2Proof/Machine/Step.lean ====
section
/-! DEFINITION. One step: one clock edge, performing the operations its ports select; and how a word of the opcode table is
placed so that the next step runs it. -/

namespace Sys2Proof.Machine

/-- One clock edge (R13, R111). While the block is held in reset nothing but the ports changes (R96). -/
def step (s : State) : Host.Outcome State Fault Refusal :=
  execAll s.fetch s.atEdge

/-- `s` with all that the next step takes to run a word of spec/opcode_table.json (log 22): the guard values of a dispatch word, the
last byte of a frame, or the release of `rst` with the byte in slot 0 of the store. -/
def State.withFetchWord (s : State) (nbits w : Nat) : State :=
  if nbits = 8 then s.presentStoreByte (BitVec.ofNat 8 w)
  else if nbits = 8 * Config.frameLen then s.presentFrame (tableFrame w)
  else s.presentDispatch (BitVec.ofNat 13 w)

end Sys2Proof.Machine
end

