-- ==== Sys2Proof/Safety.lean ====
section
/-! DEFINITION. What a safe state is (the invariants of R39 with R32 and the store's form), and the other notions the
statements are written in. -/

namespace Sys2Proof.Machine

/-! ### Runs -/

/-- `n` steps, stopping at the first fault or refusal. -/
def steps : Nat → State → Result
  | 0, s => .next s
  | n + 1, s => andThen (step s) (steps n)

/-- The outcome with `f` applied to a next state. -/
def mapNext (f : State → State) (r : Result) : Result := andThen r (fun s => .next (f s))

/-- Neither the present level of `rst` nor the first `n` edges of the script hold the block in reset. -/
def State.noReset (s : State) (n : Nat) : Prop :=
  s.ports.rst = false ∧ ∀ p ∈ s.script.take n, p.rst = false

/-- R112 as a relation: from `s` the chain performs the operations `is`, in order, and stops in `t`. -/
inductive ChainRuns : State → List Instr → State → Prop where
  /-- The selected row is STALL or a reserved one. -/
  | stop (s : State) (i : Instr) (hi : isStop i = true) (hs : s.selectedOps = [i]) : ChainRuns s [] s
  /-- The selected rows' operations are performed and the chain goes on. -/
  | go (s u t : State) (is : List Instr) (hs : ∀ i ∈ s.selectedOps, isStop i = false)
      (hu : execAll s.selectedOps s = .next u) (ht : ChainRuns u is t) : ChainRuns s (s.selectedOps ++ is) t

/-! ### Safe states (R39) -/

/-- The waiting control points (R13, R92). -/
def isWaiting : ControlPoint → Bool
  | .probe | .frame | .wait1 | .hold1 | .wait2 | .hold2 | .ack => true
  | .top | .cycle | .cal | .mix => false
  | .reserved7 | .reserved12 | .reserved13 | .reserved14 | .reserved15 => false

/-- The scheduler's control points (R214). -/
def isScheduling : ControlPoint → Bool
  | .wait1 | .hold1 | .wait2 | .hold2 => true
  | .probe | .frame | .ack | .top | .cycle | .cal | .mix => false
  | .reserved7 | .reserved12 | .reserved13 | .reserved14 | .reserved15 => false

/-- No line asserted. -/
def linesLow : PerOutput Bool := ⟨false, false, false, false⟩

/-- R39 (d): the lines that are asserted at a control point, for a parity. -/
def expectedLines (c : ControlPoint) (parity : Bool) : PerOutput Bool :=
  if c = .hold1 then linesLow.set (slot1Line parity) true
  else if c = .hold2 then linesLow.set (slot2Line parity) true
  else linesLow

/-- The states of R39, which also keep every bound at most 2550 (R32, R167) and the store in its canonical form. -/
structure Safe (s : State) : Prop where
  /-- (a), with TOP between reset and the first tick (R21) -/
  atWait : isWaiting s.cp = true ∨ s.cp = .top
  /-- (b) -/
  frameOpen : s.cp = .frame → s.synchronized = true ∧ s.stray = false ∧ s.idx.toNat ≤ 24
  /-- (c) -/
  probing : s.cp = .probe → s.synchronized = false
  /-- (d) -/
  lines : s.OUT = expectedLines s.cp s.parity
  /-- (e), whose 2047 is `CH_MAX` -/
  session : s.calState = .calibrating →
    (∀ c, (s.MIN.get c).toNat ≤ 1000 ∧ 1000 ≤ (s.MAX.get c).toNat ∧ (s.MAX.get c).toNat ≤ Config.chMax) ∧
      (s.cp = .probe ∨ s.cp = .frame)
  /-- (f) -/
  scheduling : isScheduling s.cp = true →
    s.calState = .idle ∧ s.synchronized = true ∧ (∀ c, (s.MIN.get c).toNat < (s.MAX.get c).toNat) ∧
      ∀ k, 880 ≤ (s.PW.get k).toNat ∧ (s.PW.get k).toNat ≤ 2537
  /-- (g), whose lines are (d)'s -/
  acknowledging : s.cp = .ack → s.calState = .idle
  /-- R32, R167 -/
  bounds : ∀ c, (s.MIN.get c).toNat ≤ 2550 ∧ (s.MAX.get c).toNat ≤ 2550
  /-- the canonical form of the store -/
  store : Memory.wf s.NV

/-! ### A group of 25 bytes -/

/-- The tick books the 25th byte of a group: the block collects bytes, 24 are in, and one is delivered (R131, R139). -/
structure State.AtLastByte (s : State) : Prop where
  collecting : s.cp = .frame
  count : s.idx = 24#5
  delivered : s.ports.rxValid = true

/-- The group that the tick completes. -/
def State.group (s : State) : Vector Byte 25 := s.F.set 24 s.ports.rxData

/-- R82: the markers of a group. -/
def MarkersRight (F : Vector Byte 25) : Prop := F[0] = 0x0F#8 ∧ F[24] = 0x00#8

/-- R166: all four spans exceed 600. -/
def State.SpansGood (s : State) : Prop := ∀ c, (s.MIN.get c).toNat + 600 < (s.MAX.get c).toNat

/-- R185: all four ranges are good. -/
def State.RangesGood (s : State) : Prop := ∀ c, (s.MIN.get c).toNat < (s.MAX.get c).toNat

/-- R115, R153: what CYCLE leaves of a completed group, and what the end of the tick does to the clock: the group, its timestamp,
its channel values and its failsafe flag. -/
def State.decoded (s : State) : State :=
  { s with
    F := s.group
    T := s.now
    CH := decodedChannels s.par.chSlot s.group
    failsafeOut := s.group[23].getLsbD 3
    now := s.now + 1#32 }

/-! ### Control transfers (R118) -/

/-- R118: the complete list of control transfers by dispatched operations. -/
def transfers : List (ControlPoint × Instr × ControlPoint) := [
  (.top, .topCheck, .top), (.top, .probeStart, .probe), (.top, .frameStart, .frame),
  (.probe, .stall, .probe), (.probe, .probeOk, .top), (.probe, .probeFail, .top),
  (.frame, .stall, .frame), (.frame, .frameDone, .cycle), (.frame, .frameBad, .top),
  (.cycle, .decode, .cycle), (.cycle, .decodeFs, .cycle), (.cycle, .branch, .cal), (.cycle, .branch, .mix),
  (.cal, .calEnter, .cal), (.cal, .calExpand, .top), (.cal, .calExit, .cal), (.cal, .calCommit, .ack),
  (.cal, .calReject, .top),
  (.ack, .stall, .ack), (.ack, .ackEnd, .top),
  (.mix, .mixDegenerate, .top), (.mix, .mixOk, .wait1),
  (.wait1, .stall, .wait1), (.wait1, .pulse1On, .hold1), (.hold1, .stall, .hold1), (.hold1, .pulse1Off, .wait2),
  (.wait2, .stall, .wait2), (.wait2, .pulse2On, .hold2), (.hold2, .stall, .hold2), (.hold2, .pulse2Off, .top)]

/-- The procedures that other operations invoke; no code selects them (R94). -/
def isInvoked : Instr → Bool
  | .desync | .nvLoad | .nvStore | .nvFormat => true
  | .norm | .thrMix | .thrRedist | .elvMix | .toPw => true
  | .topCheck | .probeStart | .frameStart | .probeOk | .probeFail | .frameDone | .frameBad => false
  | .decode | .decodeFs | .branch => false
  | .calEnter | .calExpand | .calExit | .calCommit | .calReject | .ackEnd => false
  | .mixDegenerate | .mixOk | .pulse1On | .pulse1Off | .pulse2On | .pulse2Off => false
  | .reservedCp7 | .reservedCp12To15 | .stall => false
  | .frame _ _ | .nvByte _ _ => false
  | .reset _ | .tick | .run | .rxAccept _ | .rxStray => false

/-- An operation by itself: not one that is a sequence of others (RUN, TICK, FRAME), nor RESET. -/
def isSingle : Instr → Bool
  | .run | .tick | .frame _ _ | .reset _ => false
  | .topCheck | .probeStart | .frameStart | .probeOk | .probeFail | .frameDone | .frameBad => true
  | .decode | .decodeFs | .branch => true
  | .calEnter | .calExpand | .calExit | .calCommit | .calReject | .ackEnd => true
  | .mixDegenerate | .mixOk | .pulse1On | .pulse1Off | .pulse2On | .pulse2Off => true
  | .reservedCp7 | .reservedCp12To15 | .stall | .nvByte _ _ => true
  | .desync | .nvLoad | .nvStore | .nvFormat => true
  | .norm | .thrMix | .thrRedist | .elvMix | .toPw => true
  | .rxAccept _ | .rxStray => true

/-! ### Relations between states -/

/-- R24: `k` added to `now`, `T` and `dl` together. -/
def State.shiftClock (k : Time) (s : State) : State :=
  { s with now := s.now + k, T := s.T + k, dl := s.dl + k }

/-- R40: states that differ at most in registers among `F`, `T`, `dl`, `CH`, `PW` that are written before they are next read:
`F[i]` once `i < idx` while a frame is collected, `T` at WAIT1 and HOLD1, `dl` where a wait reads it, and `PW` until both pulses
have risen are the same. -/
structure UnreadEq (s t : State) : Prop where
  rest : t = { s with F := t.F, T := t.T, dl := t.dl, CH := t.CH, PW := t.PW }
  bytes : s.cp = .frame → ∀ i (h : i < 25), i < s.idx.toNat → t.F[i] = s.F[i]
  timestamp : s.cp = .wait1 ∨ s.cp = .hold1 → t.T = s.T
  deadline : readsDeadline s.cp = true → t.dl = s.dl
  widths : s.cp = .wait1 ∨ s.cp = .hold1 ∨ s.cp = .wait2 → t.PW = s.PW

/-- R86: frame buffers that agree but for the bits the block ignores: `F[6][7:4]`, `F[7..22]` (slots 4 to 15) and `F[23]` but
for its bit 3. -/
def IgnoredBitsEq (F G : Vector Byte 25) : Prop :=
  (∀ i (h : i < 25), i ≤ 5 ∨ i = 24 → G[i] = F[i]) ∧
    G[6].extractLsb' 0 4 = F[6].extractLsb' 0 4 ∧ G[23].getLsbD 3 = F[23].getLsbD 3

/-- States that agree but for the ignored bits of the frame buffer. -/
def IgnoredEq (s t : State) : Prop := t = { s with F := t.F } ∧ IgnoredBitsEq s.F t.F

/-- Two outcomes are the same fault, the same refusal, or next states related by `R`. -/
def Related (R : State → State → Prop) : Result → Result → Prop
  | .next s, .next t => R s t
  | .fault a, .fault b => a = b
  | .refused a, .refused b => a = b
  | .next _, .fault _ | .next _, .refused _ => False
  | .fault _, .next _ | .fault _, .refused _ => False
  | .refused _, .next _ | .refused _, .fault _ => False

/-! ### The integer form of the mixer (R198) -/

/-- `clamp(x, a, b) = min(max(x, a), b)`. -/
def clampInt (x a b : Int) : Int := min (max x a) b

/-- R198: the four pulse widths by integer arithmetic only. -/
def integerWidths (CH : PerChannel ChannelValue) (MIN MAX : PerChannel Bound) : PerOutput Int :=
  let span (c : Channel) : Int := (MAX.get c).toNat - (MIN.get c).toNat
  let n (c : Channel) : Int := clampInt ((CH.get c).toNat - (MIN.get c).toNat) 0 (span c)
  let a1 := n .throttle * (span .rudder + 8 * n .rudder)
  let a2 := n .throttle * (9 * span .rudder - 8 * n .rudder)
  let b := 5 * span .rudder * span .throttle
  let x1 := max 0 (a1 - b)
  let x2 := max 0 (a2 - b)
  let bv := 2 * span .elevator * span .aileron
  let e1 := 2 * n .elevator * span .aileron + 2 * n .aileron * span .elevator - span .elevator * span .aileron
  let e2 := span .elevator * span .aileron - 2 * n .elevator * span .aileron + 2 * n .aileron * span .elevator
  let scaled (lo : Bound) (p d : Int) : Int := lo.toNat + p / d
  let width (x : Int) : Int := 880 + 13 * x / 20
  ⟨width (scaled MIN.throttle (clampInt (a1 - x2) 0 b) (5 * span .rudder)),
   width (scaled MIN.throttle (clampInt (a2 - x1) 0 b) (5 * span .rudder)),
   width (scaled MIN.elevator (clampInt e1 0 bv) (2 * span .aileron)),
   width (scaled MIN.elevator (clampInt e2 0 bv) (2 * span .aileron))⟩

end Sys2Proof.Machine
end

