-- ==== Sys2Proof/Certificates/Slice0/Obligations.lean ====
section
/-! DEFINITION. The statements for the provers, from the numbered rules of spec/. "log n" is notes/assumptions/n.md. -/

section Statements

open Sys2Proof Sys2Proof.Machine

/-! ### The step, the chain and the dispatch word -/

/-- R96, R111, R256: a clock edge runs the operations that its ports select, by the decoder and in order, in the state that has the
edge's levels on its ports (log 4): every edge with `rst` = 0 is a TICK, and where `rst` falls RESET is performed before it (log 5). -/
def Obligations.StepPerformsDecodedOperation : Prop :=
  ∀ s : State,
    (∀ is : List Instr, (edgeCodes s.ports s.nextPorts).map decode = is.map .ok → (∀ i ∈ is, i.wellFormed = true) →
      step s = execAll is s.atEdge) ∧
    (s.nextPorts.rst = true → step s = .next s.atEdge) ∧
    (s.nextPorts.rst = false → s.ports.rst = true →
      step s = andThen (exec (.reset s.nextPorts.fmtReq) s.atEdge) (exec .tick)) ∧
    (s.nextPorts.rst = false → s.ports.rst = false → step s = exec .tick s.atEdge) ∧
    s.atEdge = { s with ports := s.script.headD { s.ports with rxValid := false }, script := s.script.tail }

/-- R111: the three parts of TICK in their order, from a state whose trace is empty and whose `cp` is no reserved code (there R95
applies: ReservedCodeIsStuck). -/
def Obligations.TickBooksRunsThenAdvances : Prop :=
  ∀ s : State, s.events = [] → isReserved s.cp = false →
    exec .tick s =
      andThen
        (if s.ports.rxValid then (if s.cp = .frame then exec (.rxAccept s.ports.rxData) s else exec .rxStray s)
          else .next s)
        fun u => andThen (exec .run u) fun v => .next { v with now := v.now + 1#32 }

/-- R112: from every state RUN performs the selected rows' operations one after the other, those of CYCLE three at a time, and stops at a
STALL or reserved row. -/
def Obligations.RunPerformsTheChain : Prop :=
  ∀ s : State, ∃ is t, ChainRuns s is t ∧ exec .run s = .next t

/-- The bound that the spec infers in R119: no chain performs more than 10 operations, in any state. -/
def Obligations.ChainPerformsAtMostTenOperations : Prop :=
  ∀ (s t : State) (is : List Instr), ChainRuns s is t → is.length ≤ 10

/-- R93: what stands in each bit of the dispatch word; the first row that matches is performed, rows 1 to 24 exclude each other but for
rows 8, 9, 10, and STALL gets the rest. That a code tells rows 8, 9, 10 apart by a step number 0, 1, 2 is the model's form (log 10). -/
def Obligations.DispatchWordSelectsFirstRow : Prop :=
  (∀ s : State,
    s.dispatchWord.extractLsb' 9 4 = s.cp.code ∧
    s.dispatchWord.getLsbD 8 = s.stray ∧
    s.dispatchWord.getLsbD 7 = s.synchronized ∧
    (s.dispatchWord.getLsbD 6 = true ↔
      (s.now - s.dl).toNat < 2 ^ 31 ∧
        (s.cp = .probe ∨ s.cp = .wait1 ∨ s.cp = .hold1 ∨ s.cp = .wait2 ∨ s.cp = .hold2 ∨ s.cp = .ack)) ∧
    (s.dispatchWord.getLsbD 5 = true ↔ s.idx = 25#5) ∧
    (s.dispatchWord.getLsbD 4 = true ↔ s.cp = .frame ∧ s.idx = 25#5 ∧ MarkersRight s.F) ∧
    s.dispatchWord.getLsbD 3 = s.ports.calTrig ∧
    (s.dispatchWord.getLsbD 2 = true ↔ s.calState = .calibrating) ∧
    (s.dispatchWord.getLsbD 1 = true ↔ s.SpansGood) ∧
    (s.dispatchWord.getLsbD 0 = true ↔ s.RangesGood)) ∧
  (∀ (dw : BitVec 13) (r : Row), r ∈ operationMap.take 24 → dw &&& r.mask = r.mtch →
    decode (.dispatch dw (if r.instr = .decodeFs then 1 else if r.instr = .branch then 2 else 0)) = .ok r.instr) ∧
  (∀ dw : BitVec 13, (∀ r ∈ operationMap.take 24, dw &&& r.mask ≠ r.mtch) → decode (.dispatch dw 0) = .ok .stall) ∧
  (∀ (dw : BitVec 13) (p q : Row), p ∈ operationMap.take 24 → q ∈ operationMap.take 24 → dw &&& p.mask = p.mtch →
    dw &&& q.mask = q.mtch → p = q ∨ p.mtch = 0x1200#13 ∧ q.mtch = 0x1200#13)

/-- R94: the guard of every row, in the registers it looks at. -/
def Obligations.GuardsSelectTheirRows : Prop :=
  ∀ s : State,
    (s.cp = .top → s.selectedOps =
      if s.stray then [.topCheck] else if s.synchronized then [.frameStart] else [.probeStart]) ∧
    (s.cp = .probe → s.selectedOps =
      if reached s.now s.dl then (if s.stray then [.probeFail] else [.probeOk]) else [.stall]) ∧
    (s.cp = .frame → s.idx = 25#5 → MarkersRight s.F → s.selectedOps = [.frameDone]) ∧
    (s.cp = .frame → s.idx = 25#5 → ¬ MarkersRight s.F → s.selectedOps = [.frameBad]) ∧
    (s.cp = .frame → s.idx ≠ 25#5 → s.selectedOps = [.stall]) ∧
    (s.cp = .cycle → s.selectedOps = [.decode, .decodeFs, .branch]) ∧
    (s.cp = .cal → s.ports.calTrig = true → s.calState = .idle → s.selectedOps = [.calEnter]) ∧
    (s.cp = .cal → s.ports.calTrig = true → s.calState = .calibrating → s.selectedOps = [.calExpand]) ∧
    (s.cp = .cal → s.ports.calTrig = false → s.calState = .calibrating → s.selectedOps = [.calExit]) ∧
    (s.cp = .cal → s.ports.calTrig = false → s.calState = .idle → s.SpansGood → s.selectedOps = [.calCommit]) ∧
    (s.cp = .cal → s.ports.calTrig = false → s.calState = .idle → ¬ s.SpansGood → s.selectedOps = [.calReject]) ∧
    (s.cp = .mix → ¬ s.RangesGood → s.selectedOps = [.mixDegenerate]) ∧
    (s.cp = .mix → s.RangesGood → s.selectedOps = [.mixOk]) ∧
    (s.cp = .ack → s.selectedOps = if reached s.now s.dl then [.ackEnd] else [.stall]) ∧
    (s.cp = .wait1 → s.selectedOps = if reached s.now s.dl then [.pulse1On] else [.stall]) ∧
    (s.cp = .hold1 → s.selectedOps = if reached s.now s.dl then [.pulse1Off] else [.stall]) ∧
    (s.cp = .wait2 → s.selectedOps = if reached s.now s.dl then [.pulse2On] else [.stall]) ∧
    (s.cp = .hold2 → s.selectedOps = if reached s.now s.dl then [.pulse2Off] else [.stall]) ∧
    (s.cp = .reserved7 → s.selectedOps = [.reservedCp7]) ∧
    (s.cp = .reserved12 ∨ s.cp = .reserved13 ∨ s.cp = .reserved14 ∨ s.cp = .reserved15 →
      s.selectedOps = [.reservedCp12To15])

/-- R95 with U7's "state frozen": the reserved rows write nothing, and at a reserved code no operation is performed, a TICK writes
nothing but the model's trace, and steps without a reset leave every register as it is for ever (that the clock stops too is the
model's reading, log 7). -/
def Obligations.ReservedCodeIsStuck : Prop :=
  ∀ s : State,
    exec .reservedCp7 s = .next s ∧
    exec .reservedCp12To15 s = .next s ∧
    ((s.cp = .reserved7 ∨ s.cp = .reserved12 ∨ s.cp = .reserved13 ∨ s.cp = .reserved14 ∨ s.cp = .reserved15) →
      ChainRuns s [] s ∧
        exec .tick s = .next { s with events := [] } ∧
        ∀ n, s.noReset n →
          ∃ t, steps n s = .next t ∧ t = { s with ports := t.ports, script := t.script, events := t.events })

/-! ### Encodings -/

/-- Every operation that a code selects is decoded from its encoding, with every operand; the invoked procedures have none. -/
def Obligations.DecodeOfEncodeIsIdentity : Prop :=
  ∀ i : Instr,
    (i.wellFormed = true → isInvoked i = false → ∃ c, encode i = some c ∧ decode c = .ok i) ∧
    (isInvoked i = true → encode i = none)

/-- A few codes written out from R84, R88, R94 and R96 decode to what they stand for. -/
def Obligations.WrittenOutCodesDecode : Prop :=
  decode (.dispatch 0b1000100000000#13 0) = .ok .topCheck ∧
  decode (.dispatch 0b0001110110101#13 0) = .ok .frameDone ∧
  decode (.dispatch 0b1001011111111#13 2) = .ok .branch ∧
  decode (.dispatch 0b1010111000011#13 0) = .ok .calCommit ∧
  decode (.dispatch 0b1011010000101#13 0) = .ok .mixOk ∧
  decode (.dispatch 0b0101011000001#13 0) = .ok .pulse2Off ∧
  decode (.dispatch 0b0010010000001#13 0) = .ok .stall ∧
  decode (.dispatch 0b1110000000000#13 0) = .ok .reservedCp12To15 ∧
  decode (.storeByte 5#4 0b11001000#8) = .ok (.nvByte 5#4 200#8) ∧
  decode (.rstReleased true) = .ok (.reset true) ∧
  decode (.rx .frame 0x0F#8) = .ok (.rxAccept 0x0F#8) ∧
  decode (.rx .hold2 0x0F#8) = .ok .rxStray ∧
  decode (.wire 119 [0x0F#8, 0xAC#8, 0x98#8, 0x38#8, 0xF8#8, 0xD0#8, 0x07#8, 0#8, 0#8, 0#8, 0#8, 0#8, 0#8, 0#8, 0#8,
    0#8, 0#8, 0#8, 0#8, 0#8, 0#8, 0#8, 0#8, 0x08#8, 0x00#8]) =
    .ok (.frame 119 ⟨0x0F#8,
      #v[172#11, 1811#11, 992#11, 1000#11, 0#11, 0#11, 0#11, 0#11, 0#11, 0#11, 0#11, 0#11, 0#11, 0#11, 0#11, 0#11],
      0x08#8, 0x00#8⟩)

/-- R83, the layout of GK1 (log 20): bit i of slot n is payload bit `11n + i`, which is bit `j mod 8` of byte `F[1 + floor(j / 8)]`. -/
def Obligations.SlotBitIsPayloadBit : Prop :=
  ∀ (F : Vector Byte 25) (n i : Nat) (_ : n < 16) (_ : i < 11),
    (framePayload F).testBit (11 * n + i) = F[1 + (11 * n + i) / 8].getLsbD ((11 * n + i) % 8) ∧
    (slotOf F n).getLsbD i = F[1 + (11 * n + i) / 8].getLsbD ((11 * n + i) % 8)

/-- R151, in the layout of GK1 (log 20): the four decoded slots by byte operations, and bit by bit. -/
def Obligations.DecodedSlotsByByteOperations : Prop :=
  ∀ F : Vector Byte 25,
    let b (i : Fin 25) : BitVec 16 := F[i].setWidth 16
    slotOf F 0 = ((b 1 ||| b 2 <<< 8) &&& 0x7FF#16).setWidth 11 ∧
    slotOf F 1 = ((b 2 >>> 3 ||| b 3 <<< 5) &&& 0x7FF#16).setWidth 11 ∧
    slotOf F 2 = ((b 3 >>> 6 ||| b 4 <<< 2 ||| b 5 <<< 10) &&& 0x7FF#16).setWidth 11 ∧
    slotOf F 3 = ((b 5 >>> 1 ||| b 6 <<< 7) &&& 0x7FF#16).setWidth 11 ∧
    slotOf F 0 = F[2].extractLsb' 0 3 ++ F[1] ∧
    slotOf F 1 = F[3].extractLsb' 0 6 ++ F[2].extractLsb' 3 5 ∧
    slotOf F 2 = F[5].extractLsb' 0 1 ++ F[4] ++ F[3].extractLsb' 6 2 ∧
    slotOf F 3 = F[6].extractLsb' 0 4 ++ F[5].extractLsb' 1 7

/-- R154, in the layout of GK1 (log 20): packing sixteen known values and decoding gives them back, and a slot depends on its own 11 bits
only; and unpacking any 25 bytes and packing them gives the bytes back. -/
def Obligations.PackingRoundTrips : Prop :=
  (∀ (f : WireFrame) (n : Nat) (_ : n < 16), slotOf (packFrame f) n = f.slots[n]) ∧
  (∀ f : WireFrame, unpackFrame (packFrame f) = f) ∧
  (∀ F : Vector Byte 25, packFrame (unpackFrame F) = F) ∧
  (∀ (F G : Vector Byte 25) (n : Nat) (_ : n < 16),
    (∀ i, i < 11 → (framePayload F).testBit (11 * n + i) = (framePayload G).testBit (11 * n + i)) →
      slotOf F n = slotOf G n)

/-- R88, with the truncation of GK3 (log 20): a raw bound of 0 to 2047 is stored divided by ten and truncated, a stored byte stands for
ten times itself, and a bound comes back 0 to 9 units lower. -/
def Obligations.StoredByteTruncatesBound : Prop :=
  (∀ raw : Bound, raw.toNat ≤ 2047 →
    (storedOfRaw raw).toNat = raw.toNat / 10 ∧ (storedOfRaw raw).toNat ≤ 204 ∧
      (rawOfStored (storedOfRaw raw)).toNat = raw.toNat - raw.toNat % 10) ∧
  (∀ v : Byte, (rawOfStored v).toNat = 10 * v.toNat)

/-! ### The synchronizer and the decoder -/

/-- R132 to R137, R139 to R141, R152, R153: what each operation of the synchronizer and of the decoder writes; nothing else changes. -/
def Obligations.SynchronizerAndDecoderOperations : Prop :=
  ∀ s : State,
    exec .rxStray s = .next { s with stray := true } ∧
    exec .desync s = .next { s with synchronized := false, stray := false } ∧
    exec .topCheck s =
      .next { s with events := s.events ++ [.ev1], synchronized := false, stray := false } ∧
    exec .probeOk s = .next { s with synchronized := true, cp := .top } ∧
    exec .probeFail s = .next { s with stray := false, cp := .top } ∧
    exec .frameStart s = .next { s with idx := 0#5, cp := .frame } ∧
    exec .frameDone s = .next { s with T := s.now, cp := .cycle } ∧
    exec .frameBad s =
      .next { s with T := s.now, events := s.events ++ [.ev2], synchronized := false, stray := false, cp := .top } ∧
    exec .probeStart s = .next { s with dl := s.now + 100#32, cp := .probe } ∧
    exec .decode s = .next { s with CH := PerChannel.of (fun c => slotOf s.F (s.par.chSlot.get c).val) } ∧
    exec .decodeFs s = .next { s with failsafeOut := s.F[23].getLsbD 3 }

/-- R131: the byte goes to `F[idx]` and `idx` counts it. -/
def Obligations.RxAcceptStoresByte : Prop :=
  ∀ (b : Byte) (s : State) (h : s.idx.toNat ≤ 24),
    exec (.rxAccept b) s = .next { s with F := s.F.set s.idx.toNat b (by omega), idx := s.idx + 1#5 } ∧
      (s.idx + 1#5).toNat = s.idx.toNat + 1

/-- R142 (the spec's inference): of the 100 ticks after PROBE_START, one with a byte makes the probe fail and a new window open; 100 quiet
ones synchronize. -/
def Obligations.ProbeWindowIsHundredTicks : Prop :=
  ∀ s : State, s.cp = .probe → s.synchronized = false → s.stray = false → s.dl = s.now + 99#32 → s.noReset 100 →
    (∀ n, n < 100 → ∃ t, steps n s = .next t ∧ t.cp = .probe ∧ t.synchronized = false) ∧
    ∃ t, steps 100 s = .next t ∧ t.now = s.now + 100#32 ∧
      ((∀ p ∈ s.script.take 100, p.rxValid = false) → t.synchronized = true ∧ t.cp = .frame ∧ t.idx = 0#5) ∧
      ((∃ p ∈ s.script.take 100, p.rxValid = true) →
        t.synchronized = false ∧ t.cp = .probe ∧ t.stray = false ∧ t.dl = s.dl + 100#32)

/-! ### Cycle control -/

/-- R113, R116, R185: STALL writes nothing; BRANCH and MIX_DEGENERATE. -/
def Obligations.BranchStallAndDegenerateRows : Prop :=
  ∀ s : State,
    exec .branch s =
      .next { s with cp := if s.ports.calTrig = true ∨ s.calState = .calibrating then .cal else .mix } ∧
    exec .stall s = .next s ∧
    exec .mixDegenerate s = .next { s with events := s.events ++ [.ev4], cp := .top }

/-- R118: where each operation of the operation map takes `cp` when it is selected; RESET goes to TOP; and no other single operation writes
`cp`. -/
def Obligations.ControlTransfersAreListed : Prop :=
  (∀ (s t : State) (i : Instr), i ∈ s.selectedOps → exec i s = .next t →
    (s.cp, i, t.cp) ∈ transfers ∨ (i = .reservedCp7 ∨ i = .reservedCp12To15) ∧ t = s) ∧
  (∀ (s t : State) (f : Bool), exec (.reset f) s = .next t → t.cp = .top) ∧
  (∀ (s t : State) (i : Instr), isSingle i = true → i ∉ operationMap.map Row.instr → exec i s = .next t →
    t.cp = s.cp)

/-- R111, R39 (a): a tick is completed in every state in which no 26th byte is delivered to a collection; it ends at a waiting control
point, one microsecond later, or is stuck at the reserved code it began with (log 7). Its trace does not depend on the earlier ticks'
(log 8). -/
def Obligations.TickCompletesAtWait : Prop :=
  (∀ s : State, ¬ (s.ports.rxValid = true ∧ s.cp = .frame ∧ 25 ≤ s.idx.toNat) →
    ∃ t, exec .tick s = .next t ∧
      if isReserved s.cp then t = { s with events := [] } else t.now = s.now + 1#32 ∧ isWaiting t.cp = true) ∧
  (∀ (s : State) (e : List ErrorEvent), exec .tick { s with events := e } = exec .tick s)

/-- R214: in a wait of the scheduler whose deadline is not reached nothing but the clock changes, a byte sets `stray` and does nothing else,
and the trigger is not read. -/
def Obligations.SchedulerWaitOnlyAdvances : Prop :=
  ∀ s : State, isScheduling s.cp = true → reached s.now s.dl = false → s.events = [] →
    exec .tick s = .next { s with stray := s.stray || s.ports.rxValid, now := s.now + 1#32 }

/-- R117, one TICK: from two states of a mix cycle or an acknowledgment that differ in the ports and in `stray` only, a tick leaves two
states that differ only so while the cycle goes on, so that it may be repeated; a byte only sets `stray`, and where `stray` comes
out the same nothing but the ports differs, the cycle's end included. -/
def Obligations.InputsCannotAlterCycle : Prop :=
  ∀ (s : State) (p q : Ports) (a b : Bool), isScheduling s.cp = true ∨ s.cp = .ack →
    ∃ t u, exec .tick { s with ports := p, stray := a } = .next t ∧ exec .tick { s with ports := q, stray := b } = .next u ∧
      (isScheduling u.cp = true ∨ u.cp = .ack →
        t = { u with ports := p, stray := a || p.rxValid } ∧ u.stray = (b || q.rxValid)) ∧
      ((a || p.rxValid) = (b || q.rxValid) → t = { u with ports := p })

/-! ### Calibration and the store -/

/-- R161 to R163, and the pseudocode of ACK_END (R170): the session opens on the sentinel, every range widens to its channel's value, the
session closes. -/
def Obligations.SessionOpensWidensAndCloses : Prop :=
  ∀ s : State,
    exec .calEnter s =
      .next { s with
        calState := .calibrating
        MIN := ⟨1000#12, 1000#12, 1000#12, 1000#12⟩
        MAX := ⟨1000#12, 1000#12, 1000#12, 1000#12⟩ } ∧
    exec .calExit s = .next { s with calState := .idle } ∧
    exec .ackEnd s = .next { s with cp := .top } ∧
    ∃ t, exec .calExpand s = .next t ∧ t = { s with MIN := t.MIN, MAX := t.MAX, cp := .top } ∧
      ∀ c, (t.MIN.get c).toNat = min (s.MIN.get c).toNat (s.CH.get c).toNat ∧
        (t.MAX.get c).toNat = max (s.MAX.get c).toNat (s.CH.get c).toNat

/-- R167, R165: the load gives each bound ten times its slot's byte (a multiple of 10, at most 2550), and a rejection raises EV3 and
loads; neither writes the store. -/
def Obligations.LoadAndRejectionReadStore : Prop :=
  ∀ s : State, ∃ t, exec .nvLoad s = .next t ∧ t = { s with MIN := t.MIN, MAX := t.MAX } ∧
    exec .calReject s =
      .next { s with events := s.events ++ [.ev3], MIN := t.MIN, MAX := t.MAX, cp := .top } ∧
    ∀ c, (t.MIN.get c).toNat = 10 * (s.nvRead (2 * c.index)).toNat ∧
      (t.MAX.get c).toNat = 10 * (s.nvRead (2 * c.index + 1)).toNat ∧
      (t.MIN.get c).toNat ≤ 2550 ∧ (t.MAX.get c).toNat ≤ 2550

/-- R168, R164: the store gives each slot its bound divided by ten and truncated, for the bounds whose quotient is a byte, and touches no
other address; a commit stores, keeps the registers and holds the acknowledgment. -/
def Obligations.StoreAndCommitWriteQuotients : Prop :=
  ∀ s : State, Memory.wf s.NV →
    ∃ t, exec .nvStore s = .next t ∧ t = { s with NV := t.NV } ∧
      exec .calCommit s = .next { s with NV := t.NV, dl := s.now + s.par.ackHoldUs.setWidth 32, cp := .ack } ∧
      (∀ a, 8 ≤ a → t.nvRead a = s.nvRead a) ∧
      ∀ c, ((s.MIN.get c).toNat < 2560 → (t.nvRead (2 * c.index)).toNat = (s.MIN.get c).toNat / 10) ∧
        ((s.MAX.get c).toNat < 2560 → (t.nvRead (2 * c.index + 1)).toNat = (s.MAX.get c).toNat / 10)

/-- R169: the format writes 1 and 200 into the eight used slots and no other. -/
def Obligations.NvFormatWritesDefaults : Prop :=
  ∀ s : State, Memory.wf s.NV →
    ∃ t, exec .nvFormat s = .next t ∧ t = { s with NV := t.NV } ∧
      (∀ a, 8 ≤ a → t.nvRead a = s.nvRead a) ∧
      ∀ c : Channel, t.nvRead (2 * c.index) = 1#8 ∧ t.nvRead (2 * c.index + 1) = 200#8

/-- R61, R88 in the model's reading of the row (log 12): the bound of the slot's register is ten times the byte; the other bounds and
everything else stay. -/
def Obligations.NvByteLoadsOneBound : Prop :=
  ∀ (a : BitVec 4) (v : Byte) (s : State), a.toNat < 8 →
    ∃ t, exec (.nvByte a v) s = .next t ∧ t = { s with MIN := t.MIN, MAX := t.MAX } ∧
      ∀ c, ((t.MIN.get c).toNat = if a.toNat = 2 * c.index then 10 * v.toNat else (s.MIN.get c).toNat) ∧
        ((t.MAX.get c).toNat = if a.toNat = 2 * c.index + 1 then 10 * v.toNat else (s.MAX.get c).toNat)

/-- R173: a tick in which some span is 600 or less leaves the store as it is. -/
def Obligations.SmallSpanLeavesStore : Prop :=
  ∀ s t : State, ¬ s.SpansGood → exec .tick s = .next t → t.NV = s.NV

/-- R172: while a session stays open no minimum rises and no maximum falls. -/
def Obligations.SessionRangesOnlyWiden : Prop :=
  ∀ s t : State, Safe s → s.calState = .calibrating → exec .tick s = .next t → t.calState = .calibrating →
    ∀ c, (t.MIN.get c).toNat ≤ (s.MIN.get c).toNat ∧ (s.MAX.get c).toNat ≤ (t.MAX.get c).toNat

/-- R176: a calibration cycle, from the frame that opens the session to the frame that closes it, runs neither mixer nor scheduler. -/
def Obligations.CalibrationCycleIsSilent : Prop :=
  ∀ s t : State, Safe s → s.cp = .frame → s.calState = .calibrating ∨ s.ports.calTrig = true →
    exec .tick s = .next t →
      t.PW = s.PW ∧ t.parity = s.parity ∧ t.OUT = ⟨false, false, false, false⟩ ∧ isScheduling t.cp = false

/-- R170: after a commit the acknowledgment is held for exactly ACK_HOLD_US ticks. -/
def Obligations.AcknowledgmentHeldExactly : Prop :=
  ∀ s : State, s.cp = .ack → 0 < s.par.ackHoldUs.toNat →
    s.dl = s.now - 1#32 + s.par.ackHoldUs.setWidth 32 → s.noReset s.par.ackHoldUs.toNat →
      (∀ n, n < s.par.ackHoldUs.toNat → ∃ t, steps n s = .next t ∧ t.outputs.calAck = true) ∧
      ∃ t, steps s.par.ackHoldUs.toNat s = .next t ∧ t.outputs.calAck = false ∧ (t.cp = .frame ∨ t.cp = .probe)

/-! ### The mixer -/

/-- R186 (in the register the model gives the values, log 9): with `D = MAX − MIN` and `n` the value clamped into 0 .. D, the normalized
value is `n / D`. -/
def Obligations.NormDividesClampedValue : Prop :=
  ∀ s : State, s.RangesGood →
    ∃ t, exec .norm s = .next t ∧ t = { s with work := { s.work with norm := t.work.norm } } ∧
      ∀ c,
        let D : Int := (s.MAX.get c).toNat - (s.MIN.get c).toNat
        let n : Int := min (max ((s.CH.get c).toNat - (s.MIN.get c).toNat) 0) D
        t.work.norm.get c = (n : Rat) / (D : Rat) ∧ 0 ≤ t.work.norm.get c ∧ t.work.norm.get c ≤ 1

/-- R187, R189, R190, R192 to R194 (in the registers the model gives the intermediates, log 9): the formulas of the four steps after NORM;
and R196: MIX_OK performs its five steps in order, then sets the first deadline. -/
def Obligations.MixStepsFollowFormulas : Prop :=
  ∀ s : State,
    (exec .thrMix s =
      .next { s with work := { s.work with
        thr1 := s.work.norm.throttle * (1 + 2 * (s.work.norm.rudder - 1 / 2) * (4 / 5))
        thr2 := s.work.norm.throttle * (1 - 2 * (s.work.norm.rudder - 1 / 2) * (4 / 5)) } }) ∧
    (exec .thrRedist s =
      .next { s with work := { s.work with
        o := { s.work.o with
          thr1 := clamp01 (s.work.thr1 - max 0 (s.work.thr2 - 1))
          thr2 := clamp01 (s.work.thr2 - max 0 (s.work.thr1 - 1)) } } }) ∧
    (exec .elvMix s =
      .next { s with work := { s.work with
        o := { s.work.o with
          elv1 := clamp01 (s.work.norm.elevator + s.work.norm.aileron - 1 / 2)
          elv2 := clamp01 (1 - (s.work.norm.elevator - s.work.norm.aileron + 1 / 2)) } } }) ∧
    (∀ u, execAll [.norm, .thrMix, .thrRedist, .elvMix, .toPw] s = .next u →
      exec .mixOk s = .next { u with work := s.work, dl := s.T + 1000#32, cp := .wait1 }) ∧
    ∃ t, exec .toPw s = .next t ∧ t = { s with PW := t.PW } ∧
      ∀ k : Output,
        let c : Channel := if k = .thr1 ∨ k = .thr2 then .throttle else .elevator
        let lo : Int := (s.MIN.get c).toNat
        let hi : Int := (s.MAX.get c).toNat
        let width : Int := 880 + ⌊((lo + ⌊s.work.o.get k * ((hi - lo : Int) : Rat)⌋ : Int) : Rat) * 13 / 20⌋
        0 ≤ width → width ≤ 4095 → ((t.PW.get k).toNat : Int) = width

/-- R198 (the spec's inference): for all ranges good, MIX_OK's four widths are those of the integer form, and it writes nothing but them,
the deadline and `cp` (R196). -/
def Obligations.MixOkEqualsIntegerForm : Prop :=
  ∀ s : State, s.RangesGood →
    ∃ t, exec .mixOk s = .next t ∧ t = { s with PW := t.PW, dl := s.T + 1000#32, cp := .wait1 } ∧
      ∀ k, ((t.PW.get k).toNat : Int) = (integerWidths s.CH s.MIN s.MAX).get k

/-- R195 (the spec's inference): the bounds of every width, by the range of its channel; with bounds up to 2550 it lies in 880 .. 2537. -/
def Obligations.PulseWidthsStayInRange : Prop :=
  ∀ s : State, s.RangesGood → (∀ c, (s.MAX.get c).toNat ≤ 2550) →
    ∃ t, exec .mixOk s = .next t ∧
      ∀ k : Output,
        let c : Channel := if k = .thr1 ∨ k = .thr2 then .throttle else .elevator
        880 + 13 * (s.MIN.get c).toNat / 20 ≤ (t.PW.get k).toNat ∧
          (t.PW.get k).toNat ≤ 880 + 13 * (s.MAX.get c).toNat / 20 ∧
          880 ≤ (t.PW.get k).toNat ∧ (t.PW.get k).toNat ≤ 2537

/-- R187's and R189's corner cases, R199 (b) (the spec's inferences): the two throttle commands add up to twice the throttle, at most one
exceeds 1, redistribution never raises a command or their sum, and it keeps their difference where the reduced one stays above 0. -/
def Obligations.RedistributionKeepsDifference : Prop :=
  ∀ r t : Rat, 0 ≤ r → r ≤ 1 → 0 ≤ t → t ≤ 1 →
    let a := throttle1 r t
    let b := throttle2 r t
    let f1 := a - excess b
    let f2 := b - excess a
    a + b = 2 * t ∧ 0 ≤ a ∧ a ≤ 9 / 5 ∧ 0 ≤ b ∧ b ≤ 9 / 5 ∧ (excess a = 0 ∨ excess b = 0) ∧
      f1 ≤ a ∧ f2 ≤ b ∧ f1 + f2 ≤ 2 * t ∧
      (1 < a → clamp01 f1 = 1 ∧ f2 = b - a + 1 ∧ (0 ≤ f2 → clamp01 f1 - clamp01 f2 = a - b)) ∧
      (1 < b → clamp01 f2 = 1 ∧ f1 = a - b + 1 ∧ (0 ≤ f1 → clamp01 f2 - clamp01 f1 = b - a)) ∧
      (a ≤ 1 → b ≤ 1 → clamp01 f1 = a ∧ clamp01 f2 = b)

/-- R199 (c), (d) (the spec's inferences): sticks at the exact midpoints give equal widths in each pair; full throttle with centred rudder
gives both throttle lines the width of the throttle's upper bound. -/
def Obligations.NeutralAndFullThrottle : Prop :=
  ∀ s : State, s.RangesGood →
    ∃ t, exec .mixOk s = .next t ∧
      ((∀ c, 2 * (s.CH.get c).toNat = (s.MIN.get c).toNat + (s.MAX.get c).toNat) →
        t.PW.thr1 = t.PW.thr2 ∧ t.PW.elv1 = t.PW.elv2) ∧
      (s.MAX.throttle.toNat ≤ s.CH.throttle.toNat →
        2 * s.CH.rudder.toNat = s.MIN.rudder.toNat + s.MAX.rudder.toNat →
          t.PW.thr1.toNat = 880 + 13 * s.MAX.throttle.toNat / 20 ∧
            t.PW.thr2.toNat = 880 + 13 * s.MAX.throttle.toNat / 20)

/-! ### The pulse scheduler -/

/-- R212, R213, R215, R216: the four operations, on the line of their slot and parity (R211). -/
def Obligations.PulseOperations : Prop :=
  ∀ s : State,
    let k1 : Output := if s.parity then .thr1 else .elv1
    let k2 : Output := if s.parity then .thr2 else .elv2
    exec .pulse1On s =
      .next { s with OUT := s.OUT.set k1 true, dl := s.now + (s.PW.get k1).setWidth 32, cp := .hold1 } ∧
    exec .pulse1Off s =
      .next { s with OUT := s.OUT.set k1 false, dl := s.T + 4000#32, cp := .wait2 } ∧
    exec .pulse2On s =
      .next { s with OUT := s.OUT.set k2 true, dl := s.now + (s.PW.get k2).setWidth 32, cp := .hold2 } ∧
    exec .pulse2Off s =
      .next { s with OUT := s.OUT.set k2 false, parity := !s.parity, cp := .top }

/-- R217 (the spec's inference): from the tick that raises a line, it reads 1 after exactly `PW[k]` ticks and then 0, whatever bytes and
trigger levels arrive. -/
def Obligations.PulseIsExactlyItsWidth : Prop :=
  ∀ (s : State) (k : Output), Safe s → reached s.now s.dl = true →
    (s.cp = .wait1 ∧ k = (if s.parity then .thr1 else .elv1) ∨
      s.cp = .wait2 ∧ k = (if s.parity then .thr2 else .elv2)) →
    s.noReset ((s.PW.get k).toNat + 1) →
      s.OUT.get k = false ∧
      ∀ n, n ≤ (s.PW.get k).toNat →
        ∃ t, steps (n + 1) s = .next t ∧ t.OUT.get k = decide (n < (s.PW.get k).toNat)

/-- R218 (the spec's inference): the timeline of a mix cycle, tick by tick from the tick `T` that completes its frame: the two pulses of
the pair that `parity` selects, slot 1 before slot 2, no other line, and the end of the cycle at `T + 4000 + w2`. -/
def Obligations.MixCycleTimeline : Prop :=
  ∀ s : State, Safe s → s.atEdge.AtLastByte → MarkersRight s.atEdge.group → s.atEdge.ports.calTrig = false →
    s.ports.rst = false → s.atEdge.ports.rst = false → s.calState = .idle → s.RangesGood →
      let k1 : Output := if s.parity then .thr1 else .elv1
      let k2 : Output := if s.parity then .thr2 else .elv2
      ∃ u, steps 1 s = .next u ∧ u.cp = .wait1 ∧ u.T = s.now ∧
        let w1 := (u.PW.get k1).toNat
        let w2 := (u.PW.get k2).toNat
        u.noReset (4000 + w2) → ∀ m, m ≤ 4000 + w2 →
          ∃ t, steps m u = .next t ∧ t.now = s.now + 1#32 + BitVec.ofNat 32 m ∧
            (∀ k, t.OUT.get k = decide (k = k1 ∧ 1000 ≤ m ∧ m < 1000 + w1 ∨ k = k2 ∧ 4000 ≤ m ∧ m < 4000 + w2)) ∧
            (m < 1000 → t.cp = .wait1) ∧ (1000 ≤ m → m < 1000 + w1 → t.cp = .hold1) ∧
            (1000 + w1 ≤ m → m < 4000 → t.cp = .wait2) ∧ (4000 ≤ m → m < 4000 + w2 → t.cp = .hold2) ∧
            (m < 4000 + w2 → t.parity = s.parity) ∧
            (m = 4000 + w2 → t.parity = !s.parity ∧ (t.cp = .frame ∨ t.cp = .probe))

/-! ### Whole ticks that complete a group, and the reception of a frame -/

/-- R139, R112's example, R198: a good frame in a mix cycle: decoded, mixed and waiting for slot 1 in the one tick. -/
def Obligations.GoodFrameStartsMixCycle : Prop :=
  ∀ s : State, s.AtLastByte → MarkersRight s.group → s.ports.calTrig = false → s.calState = .idle → s.RangesGood →
    ∃ t, exec .tick s = .next t ∧
      t = { s.decoded with idx := 25#5, PW := t.PW, dl := s.now + 1000#32, cp := .wait1, events := [] } ∧
      ∀ k, ((t.PW.get k).toNat : Int) = (integerWidths s.decoded.CH s.MIN s.MAX).get k

/-- R185, R120: the same with a degenerate range: EV4, no pulse, and the next collection opens in the same tick. -/
def Obligations.DegenerateFrameEndsCycle : Prop :=
  ∀ s : State, Safe s → s.AtLastByte → MarkersRight s.group → s.ports.calTrig = false → s.calState = .idle →
    ¬ s.RangesGood →
      exec .tick s = .next { s.decoded with idx := 0#5, events := [.ev4] }

/-- R161, R162, R120: a good frame with the trigger asserted: the session opens if it is not open, and every range takes the frame's value
in. -/
def Obligations.TriggeredFrameIsSample : Prop :=
  ∀ s : State, Safe s → s.AtLastByte → MarkersRight s.group → s.ports.calTrig = true →
    ∃ t, exec .tick s = .next t ∧
      t = { s.decoded with idx := 0#5, calState := .calibrating, MIN := t.MIN, MAX := t.MAX, events := [] } ∧
      ∀ c,
        let lo := if s.calState = .idle then 1000 else (s.MIN.get c).toNat
        let hi := if s.calState = .idle then 1000 else (s.MAX.get c).toNat
        (t.MIN.get c).toNat = min lo (s.decoded.CH.get c).toNat ∧
          (t.MAX.get c).toNat = max hi (s.decoded.CH.get c).toNat

/-- R163, R164, R166: the frame that closes a session with all spans above 600 stores the session's bounds, without its own values, and
holds the acknowledgment; a hold of 0 ends in the same tick (R164's corner case). -/
def Obligations.ClosingFrameCommits : Prop :=
  ∀ s : State, Safe s → s.AtLastByte → MarkersRight s.group → s.ports.calTrig = false → s.calState = .calibrating →
    s.SpansGood →
      ∃ t, exec .tick s = .next t ∧
        t = { s.decoded with
          idx := if s.par.ackHoldUs = 0#31 then 0#5 else 25#5
          calState := .idle
          NV := t.NV
          dl := s.now + s.par.ackHoldUs.setWidth 32
          cp := if s.par.ackHoldUs = 0#31 then .frame else .ack
          events := [] } ∧
        t.nvRead 8 = s.nvRead 8 ∧
        ∀ c, (t.nvRead (2 * c.index)).toNat = (s.MIN.get c).toNat / 10 ∧
          (t.nvRead (2 * c.index + 1)).toNat = (s.MAX.get c).toNat / 10

/-- R163, R165, R233: the frame that closes a session with some span of 600 or less raises EV3, reloads all ranges and leaves the store. -/
def Obligations.ClosingFrameRejects : Prop :=
  ∀ s : State, Safe s → s.AtLastByte → MarkersRight s.group → s.ports.calTrig = false → s.calState = .calibrating →
    ¬ s.SpansGood →
      ∃ t, exec .tick s = .next t ∧
        t = { s.decoded with idx := 0#5, calState := .idle, MIN := t.MIN, MAX := t.MAX, events := [.ev3] } ∧
        ∀ c, (t.MIN.get c).toNat = 10 * (s.nvRead (2 * c.index)).toNat ∧
          (t.MAX.get c).toNat = 10 * (s.nvRead (2 * c.index + 1)).toNat

/-- R140, R232, R236: a group with a wrong marker raises EV2 and nothing else, is not decoded, and a new probe opens in the same tick. -/
def Obligations.BadGroupDesynchronizes : Prop :=
  ∀ s : State, s.AtLastByte → ¬ MarkersRight s.group →
    exec .tick s =
      .next { s with
        F := s.group, idx := 25#5, T := s.now, synchronized := false, stray := false, dl := s.now + 100#32,
        cp := .probe, now := s.now + 1#32, events := [.ev2] }

/-- R84, R100, R131: FRAME delivers its first 24 bytes into `F[0..23]`, one every `gap + 1` ticks, and then runs the tick of the 25th (log
11). -/
def Obligations.FrameDeliversItsBytes : Prop :=
  ∀ (gap : Nat) (f : WireFrame) (s : State), s.cp = .frame → s.idx = 0#5 → s.ports.rst = false →
    exec (.frame gap f) s =
      exec .tick { s with
        F := (packFrame f).set 24 s.F[24]
        idx := 24#5
        now := s.now + BitVec.ofNat 32 (24 * (gap + 1))
        ports := { s.ports with rxValid := true, rxData := f.trailer }
        events := [] }

/-- R82, R152, R153, R198 for a whole frame on the wire: its slots become the channel values, its flag the failsafe output, and its mix
cycle starts. -/
def Obligations.WellFormedFrameIsMixed : Prop :=
  ∀ (gap : Nat) (f : WireFrame) (s : State), (Instr.frame gap f).wellFormed = true → s.cp = .frame → s.idx = 0#5 →
    s.ports.rst = false → s.ports.calTrig = false → s.calState = .idle → s.RangesGood →
      ∃ t, exec (.frame gap f) s = .next t ∧
        t = { s with
          F := packFrame f, idx := 25#5, T := s.now + BitVec.ofNat 32 (24 * (gap + 1)),
          CH := PerChannel.of (fun c => f.slots[s.par.chSlot.get c]), failsafeOut := f.flags.getLsbD 3, PW := t.PW,
          dl := s.now + BitVec.ofNat 32 (24 * (gap + 1) + 1000), cp := .wait1,
          now := s.now + BitVec.ofNat 32 (24 * (gap + 1) + 1),
          ports := { s.ports with rxValid := true, rxData := f.trailer }, events := [] } ∧
        ∀ k, ((t.PW.get k).toNat : Int) = (integerWidths t.CH s.MIN s.MAX).get k

/-! ### Reset, and what a step keeps -/

/-- R256: RESET in every state: the format where it is requested, the load, and the value of each register to which the rule gives one;
slot 8 is never touched and the parameters stay. -/
def Obligations.ResetLoadsStoreAndClears : Prop :=
  ∀ (fmt : Bool) (s : State), Memory.wf s.NV →
    ∃ t, exec (.reset fmt) s = .next t ∧
      (∀ c : Channel,
        t.nvRead (2 * c.index) = (if fmt then 1#8 else s.nvRead (2 * c.index)) ∧
        t.nvRead (2 * c.index + 1) = (if fmt then 200#8 else s.nvRead (2 * c.index + 1)) ∧
        (t.MIN.get c).toNat = 10 * (t.nvRead (2 * c.index)).toNat ∧
        (t.MAX.get c).toNat = 10 * (t.nvRead (2 * c.index + 1)).toNat) ∧
      (∀ a, 8 ≤ a → t.nvRead a = s.nvRead a) ∧
      t.cp = .top ∧ t.idx = 0#5 ∧ t.now = 0#32 ∧ t.stray = false ∧ t.synchronized = false ∧ t.failsafeOut = false ∧
      t.calState = .idle ∧ t.parity = false ∧ t.OUT = ⟨false, false, false, false⟩ ∧
      t.par = s.par ∧ t.ports = s.ports ∧ t.script = s.script

/-- The model's choice (log 1, log 2, log 8, log 9): the registers to which R38 and R256 give no value are 0 in the reset state and after
RESET, and the model's own trace and intermediates are empty. -/
def Obligations.UnspecifiedRegistersResetToZero : Prop :=
  (∀ (fmt : Bool) (s : State), ∃ t, exec (.reset fmt) s = .next t ∧ t.F = Vector.replicate 25 0#8 ∧ t.T = 0#32 ∧
    t.dl = 0#32 ∧ t.CH = ⟨0#11, 0#11, 0#11, 0#11⟩ ∧ t.PW = ⟨0#12, 0#12, 0#12, 0#12⟩ ∧ t.events = [] ∧
    t.work = MixWork.zero) ∧
  State.reset.F = Vector.replicate 25 0#8 ∧ State.reset.T = 0#32 ∧ State.reset.dl = 0#32 ∧
  State.reset.CH = ⟨0#11, 0#11, 0#11, 0#11⟩ ∧ State.reset.PW = ⟨0#12, 0#12, 0#12, 0#12⟩

/-- R36, R96: the outputs are the registers, `synchronized` and "cp is ACK"; and R256: all are 0 while `rst` is 1, where R36 by itself
would have `cal_ack` 1 at ACK (that R256 prevails there is the model's reading, log 25). -/
def Obligations.OutputsFollowRegisters : Prop :=
  ∀ s : State,
    (s.ports.rst = false → s.outputs =
      ⟨s.OUT.thr1, s.OUT.thr2, s.OUT.elv1, s.OUT.elv2, s.synchronized, s.failsafeOut, decide (s.cp = .ack)⟩) ∧
    (s.ports.rst = true → s.outputs = ⟨false, false, false, false, false, false, false⟩)

/-- The reset state meets the invariants, and has the values R38 states (with the formatted store of log 3). -/
def Obligations.ResetStateIsSafe : Prop :=
  Safe State.reset ∧ State.reset.cp = .top ∧ State.reset.idx = 0#5 ∧ State.reset.now = 0#32 ∧
    State.reset.stray = false ∧ State.reset.synchronized = false ∧ State.reset.failsafeOut = false ∧
    State.reset.calState = .idle ∧ State.reset.parity = false ∧ State.reset.OUT = ⟨false, false, false, false⟩ ∧
    ∀ c, (State.reset.MIN.get c).toNat = 10 * (State.reset.nvRead (2 * c.index)).toNat ∧
      (State.reset.MAX.get c).toNat = 10 * (State.reset.nvRead (2 * c.index + 1)).toNat

/-- R39 (the spec's inference): every step from a safe state is a next state and a safe one; after a tick `cp` is a waiting control point.
-/
def Obligations.EveryStepKeepsSafe : Prop :=
  ∀ s : State, Safe s →
    ∃ t, step s = .next t ∧ Safe t ∧ (s.nextPorts.rst = false → isWaiting t.cp = true)

/-- R60, R63: every operation, TICK, FRAME and RESET among them, keeps the canonical form of the store. -/
def Obligations.EveryOperationKeepsStoreForm : Prop :=
  ∀ (i : Instr) (s t : State), Memory.wf s.NV → exec i s = .next t → Memory.wf t.NV

/-- R40 (the spec's inference): from a safe state, what a step leaves does not depend on the registers that have not been written since
they were last dead: such states stay equal but for registers of that kind. -/
def Obligations.UnwrittenRegistersAreNotRead : Prop :=
  ∀ s t : State, Safe s → UnreadEq s t → Related UnreadEq (step s) (step t)

/-- R24 (the spec's inference): adding a constant to `now`, `T` and `dl` together adds it to the outcome of every operation but RESET and
FRAME (a sequence that may hold a RESET), and changes nothing else. -/
def Obligations.ClockShiftIsInvisible : Prop :=
  ∀ (k : Time) (i : Instr) (s : State), (∀ f, i ≠ .reset f) → (∀ g f, i ≠ .frame g f) →
    exec i (s.shiftClock k) = mapNext (State.shiftClock k) (exec i s)

/-- R86: the ignored bits of the frame buffer change nothing but themselves, in every tick. -/
def Obligations.IgnoredFrameBitsHaveNoEffect : Prop :=
  ∀ s t : State, IgnoredEq s t → Related IgnoredEq (exec .tick s) (exec .tick t)

/-- R41's "written by" column, with the model's NV_BYTE (log 12) and the steps of MIX_OK (log 9): an operation that is not named for a
register leaves it as it is; and R231 to R234: each error event is raised by one operation and by nothing else. -/
def Obligations.OnlyListedOperationsWrite : Prop :=
  ∀ (i : Instr) (s t : State), isSingle i = true → exec i s = .next t →
    ((∀ b, i ≠ .rxAccept b) → t.F = s.F ∧ (i ≠ .frameStart → t.idx = s.idx)) ∧
    t.now = s.now ∧
    (i ≠ .frameDone → i ≠ .frameBad → t.T = s.T) ∧
    (i ∉ [.probeStart, .calCommit, .mixOk, .pulse1On, .pulse1Off, .pulse2On] → t.dl = s.dl) ∧
    (i ≠ .rxStray → t.stray = true → s.stray = true) ∧
    (i ∉ [.desync, .topCheck, .frameBad, .probeFail] → s.stray = true → t.stray = true) ∧
    (i ≠ .probeOk → t.synchronized = true → s.synchronized = true) ∧
    (i ∉ [.desync, .topCheck, .frameBad] → s.synchronized = true → t.synchronized = true) ∧
    (i ≠ .decode → t.CH = s.CH) ∧
    (i ≠ .decodeFs → t.failsafeOut = s.failsafeOut) ∧
    (i ≠ .calEnter → i ≠ .calExit → t.calState = s.calState) ∧
    (i ∉ [.nvLoad, .calReject, .calEnter, .calExpand] → (∀ a v, i ≠ .nvByte a v) → t.MIN = s.MIN ∧ t.MAX = s.MAX) ∧
    (i ≠ .mixOk → i ≠ .toPw → t.PW = s.PW) ∧
    (i ≠ .pulse2Off → t.parity = s.parity) ∧
    (i ∉ [.pulse1On, .pulse1Off, .pulse2On, .pulse2Off] → t.OUT = s.OUT) ∧
    (i ∉ [.nvStore, .calCommit, .nvFormat] → t.NV = s.NV) ∧
    t.events = s.events ++
      (if i = .topCheck then [.ev1] else if i = .frameBad then [.ev2] else if i = .calReject then [.ev3]
        else if i = .mixDegenerate then [.ev4] else []) ∧
    t.par = s.par ∧ t.ports = s.ports ∧ t.script = s.script

/-! ### Stops, and the presentation of table words -/

/-- The model's stops (log 15, log 16, log 19): operands for which the spec gives the operation no effect. -/
def Obligations.StopsOutsideTheRules : Prop :=
  ∀ s : State,
    (∀ b, 25 ≤ s.idx.toNat → exec (.rxAccept b) s = .fault .frameIndex) ∧
    (∀ (a : BitVec 4) v, 8 ≤ a.toNat → exec (.nvByte a v) s = .fault .storeAddress) ∧
    (¬ s.RangesGood → exec .norm s = .fault .degenerateRange ∧ exec .mixOk s = .fault .degenerateRange)

/-- The model's placement of table words (log 22): the next step runs the row's operation. -/
def Obligations.PresentedWordIsSelected : Prop :=
  (∀ (s : State) (r : Row), r ∈ operationMap →
    (s.withFetchWord 16 r.mtch.toNat).fetch = [.tick] ∧
      r.instr ∈ ({ (s.withFetchWord 16 r.mtch.toNat).atEdge with events := [] } : State).selectedOps) ∧
  (∀ (s : State) (w : Nat),
    (s.withFetchWord 200 w).fetch = [.tick] ∧ (s.withFetchWord 200 w).atEdge.AtLastByte ∧
      (s.withFetchWord 200 w).atEdge.group = tableFrame w) ∧
  (∀ (s : State) (w : Nat), Memory.wf s.NV →
    (s.withFetchWord 8 w).fetch = [.reset false, .tick] ∧ (s.withFetchWord 8 w).atEdge.nvRead 0 = BitVec.ofNat 8 w)

end Statements
end

