-- ==== Sys2Proof/Laws/State.lean ====
section
/-! SUPPORT. What each named update of the state does to each field: one lemma per field and update. -/

namespace Sys2Proof.Machine

@[simp] theorem State.goto_cp (s : State) (c : ControlPoint) : (s.goto c).cp = c := rfl
@[simp] theorem State.goto_idx (s : State) (c : ControlPoint) : (s.goto c).idx = s.idx := rfl
@[simp] theorem State.goto_F (s : State) (c : ControlPoint) : (s.goto c).F = s.F := rfl
@[simp] theorem State.goto_now (s : State) (c : ControlPoint) : (s.goto c).now = s.now := rfl
@[simp] theorem State.goto_T (s : State) (c : ControlPoint) : (s.goto c).T = s.T := rfl
@[simp] theorem State.goto_dl (s : State) (c : ControlPoint) : (s.goto c).dl = s.dl := rfl
@[simp] theorem State.goto_stray (s : State) (c : ControlPoint) : (s.goto c).stray = s.stray := rfl
@[simp] theorem State.goto_synchronized (s : State) (c : ControlPoint) : (s.goto c).synchronized = s.synchronized := rfl
@[simp] theorem State.goto_CH (s : State) (c : ControlPoint) : (s.goto c).CH = s.CH := rfl
@[simp] theorem State.goto_failsafeOut (s : State) (c : ControlPoint) : (s.goto c).failsafeOut = s.failsafeOut := rfl
@[simp] theorem State.goto_calState (s : State) (c : ControlPoint) : (s.goto c).calState = s.calState := rfl
@[simp] theorem State.goto_MIN (s : State) (c : ControlPoint) : (s.goto c).MIN = s.MIN := rfl
@[simp] theorem State.goto_MAX (s : State) (c : ControlPoint) : (s.goto c).MAX = s.MAX := rfl
@[simp] theorem State.goto_PW (s : State) (c : ControlPoint) : (s.goto c).PW = s.PW := rfl
@[simp] theorem State.goto_parity (s : State) (c : ControlPoint) : (s.goto c).parity = s.parity := rfl
@[simp] theorem State.goto_OUT (s : State) (c : ControlPoint) : (s.goto c).OUT = s.OUT := rfl
@[simp] theorem State.goto_NV (s : State) (c : ControlPoint) : (s.goto c).NV = s.NV := rfl
@[simp] theorem State.goto_par (s : State) (c : ControlPoint) : (s.goto c).par = s.par := rfl
@[simp] theorem State.goto_ports (s : State) (c : ControlPoint) : (s.goto c).ports = s.ports := rfl
@[simp] theorem State.goto_script (s : State) (c : ControlPoint) : (s.goto c).script = s.script := rfl
@[simp] theorem State.goto_events (s : State) (c : ControlPoint) : (s.goto c).events = s.events := rfl
@[simp] theorem State.goto_work (s : State) (c : ControlPoint) : (s.goto c).work = s.work := rfl

@[simp] theorem State.desync_cp (s : State) : (s.desync).cp = s.cp := rfl
@[simp] theorem State.desync_idx (s : State) : (s.desync).idx = s.idx := rfl
@[simp] theorem State.desync_F (s : State) : (s.desync).F = s.F := rfl
@[simp] theorem State.desync_now (s : State) : (s.desync).now = s.now := rfl
@[simp] theorem State.desync_T (s : State) : (s.desync).T = s.T := rfl
@[simp] theorem State.desync_dl (s : State) : (s.desync).dl = s.dl := rfl
@[simp] theorem State.desync_stray (s : State) : (s.desync).stray = false := rfl
@[simp] theorem State.desync_synchronized (s : State) : (s.desync).synchronized = false := rfl
@[simp] theorem State.desync_CH (s : State) : (s.desync).CH = s.CH := rfl
@[simp] theorem State.desync_failsafeOut (s : State) : (s.desync).failsafeOut = s.failsafeOut := rfl
@[simp] theorem State.desync_calState (s : State) : (s.desync).calState = s.calState := rfl
@[simp] theorem State.desync_MIN (s : State) : (s.desync).MIN = s.MIN := rfl
@[simp] theorem State.desync_MAX (s : State) : (s.desync).MAX = s.MAX := rfl
@[simp] theorem State.desync_PW (s : State) : (s.desync).PW = s.PW := rfl
@[simp] theorem State.desync_parity (s : State) : (s.desync).parity = s.parity := rfl
@[simp] theorem State.desync_OUT (s : State) : (s.desync).OUT = s.OUT := rfl
@[simp] theorem State.desync_NV (s : State) : (s.desync).NV = s.NV := rfl
@[simp] theorem State.desync_par (s : State) : (s.desync).par = s.par := rfl
@[simp] theorem State.desync_ports (s : State) : (s.desync).ports = s.ports := rfl
@[simp] theorem State.desync_script (s : State) : (s.desync).script = s.script := rfl
@[simp] theorem State.desync_events (s : State) : (s.desync).events = s.events := rfl
@[simp] theorem State.desync_work (s : State) : (s.desync).work = s.work := rfl

@[simp] theorem State.record_cp (s : State) (e : ErrorEvent) : (s.record e).cp = s.cp := rfl
@[simp] theorem State.record_idx (s : State) (e : ErrorEvent) : (s.record e).idx = s.idx := rfl
@[simp] theorem State.record_F (s : State) (e : ErrorEvent) : (s.record e).F = s.F := rfl
@[simp] theorem State.record_now (s : State) (e : ErrorEvent) : (s.record e).now = s.now := rfl
@[simp] theorem State.record_T (s : State) (e : ErrorEvent) : (s.record e).T = s.T := rfl
@[simp] theorem State.record_dl (s : State) (e : ErrorEvent) : (s.record e).dl = s.dl := rfl
@[simp] theorem State.record_stray (s : State) (e : ErrorEvent) : (s.record e).stray = s.stray := rfl
@[simp] theorem State.record_synchronized (s : State) (e : ErrorEvent) : (s.record e).synchronized = s.synchronized := rfl
@[simp] theorem State.record_CH (s : State) (e : ErrorEvent) : (s.record e).CH = s.CH := rfl
@[simp] theorem State.record_failsafeOut (s : State) (e : ErrorEvent) : (s.record e).failsafeOut = s.failsafeOut := rfl
@[simp] theorem State.record_calState (s : State) (e : ErrorEvent) : (s.record e).calState = s.calState := rfl
@[simp] theorem State.record_MIN (s : State) (e : ErrorEvent) : (s.record e).MIN = s.MIN := rfl
@[simp] theorem State.record_MAX (s : State) (e : ErrorEvent) : (s.record e).MAX = s.MAX := rfl
@[simp] theorem State.record_PW (s : State) (e : ErrorEvent) : (s.record e).PW = s.PW := rfl
@[simp] theorem State.record_parity (s : State) (e : ErrorEvent) : (s.record e).parity = s.parity := rfl
@[simp] theorem State.record_OUT (s : State) (e : ErrorEvent) : (s.record e).OUT = s.OUT := rfl
@[simp] theorem State.record_NV (s : State) (e : ErrorEvent) : (s.record e).NV = s.NV := rfl
@[simp] theorem State.record_par (s : State) (e : ErrorEvent) : (s.record e).par = s.par := rfl
@[simp] theorem State.record_ports (s : State) (e : ErrorEvent) : (s.record e).ports = s.ports := rfl
@[simp] theorem State.record_script (s : State) (e : ErrorEvent) : (s.record e).script = s.script := rfl
@[simp] theorem State.record_events (s : State) (e : ErrorEvent) : (s.record e).events = s.events ++ [e] := rfl
@[simp] theorem State.record_work (s : State) (e : ErrorEvent) : (s.record e).work = s.work := rfl

@[simp] theorem State.resumeAtTop_cp (s : State) : (s.resumeAtTop).cp = .top := rfl
@[simp] theorem State.resumeAtTop_idx (s : State) : (s.resumeAtTop).idx = s.idx := rfl
@[simp] theorem State.resumeAtTop_F (s : State) : (s.resumeAtTop).F = s.F := rfl
@[simp] theorem State.resumeAtTop_now (s : State) : (s.resumeAtTop).now = s.now := rfl
@[simp] theorem State.resumeAtTop_T (s : State) : (s.resumeAtTop).T = s.T := rfl
@[simp] theorem State.resumeAtTop_dl (s : State) : (s.resumeAtTop).dl = s.dl := rfl
@[simp] theorem State.resumeAtTop_stray (s : State) : (s.resumeAtTop).stray = s.stray := rfl
@[simp] theorem State.resumeAtTop_synchronized (s : State) : (s.resumeAtTop).synchronized = s.synchronized := rfl
@[simp] theorem State.resumeAtTop_CH (s : State) : (s.resumeAtTop).CH = s.CH := rfl
@[simp] theorem State.resumeAtTop_failsafeOut (s : State) : (s.resumeAtTop).failsafeOut = s.failsafeOut := rfl
@[simp] theorem State.resumeAtTop_calState (s : State) : (s.resumeAtTop).calState = s.calState := rfl
@[simp] theorem State.resumeAtTop_MIN (s : State) : (s.resumeAtTop).MIN = s.MIN := rfl
@[simp] theorem State.resumeAtTop_MAX (s : State) : (s.resumeAtTop).MAX = s.MAX := rfl
@[simp] theorem State.resumeAtTop_PW (s : State) : (s.resumeAtTop).PW = s.PW := rfl
@[simp] theorem State.resumeAtTop_parity (s : State) : (s.resumeAtTop).parity = s.parity := rfl
@[simp] theorem State.resumeAtTop_OUT (s : State) : (s.resumeAtTop).OUT = s.OUT := rfl
@[simp] theorem State.resumeAtTop_NV (s : State) : (s.resumeAtTop).NV = s.NV := rfl
@[simp] theorem State.resumeAtTop_par (s : State) : (s.resumeAtTop).par = s.par := rfl
@[simp] theorem State.resumeAtTop_ports (s : State) : (s.resumeAtTop).ports = s.ports := rfl
@[simp] theorem State.resumeAtTop_script (s : State) : (s.resumeAtTop).script = s.script := rfl
@[simp] theorem State.resumeAtTop_events (s : State) : (s.resumeAtTop).events = s.events := rfl
@[simp] theorem State.resumeAtTop_work (s : State) : (s.resumeAtTop).work = s.work := rfl

@[simp] theorem State.nvWrite_cp (s : State) (a : Nat) (v : Byte) : (s.nvWrite a v).cp = s.cp := rfl
@[simp] theorem State.nvWrite_idx (s : State) (a : Nat) (v : Byte) : (s.nvWrite a v).idx = s.idx := rfl
@[simp] theorem State.nvWrite_F (s : State) (a : Nat) (v : Byte) : (s.nvWrite a v).F = s.F := rfl
@[simp] theorem State.nvWrite_now (s : State) (a : Nat) (v : Byte) : (s.nvWrite a v).now = s.now := rfl
@[simp] theorem State.nvWrite_T (s : State) (a : Nat) (v : Byte) : (s.nvWrite a v).T = s.T := rfl
@[simp] theorem State.nvWrite_dl (s : State) (a : Nat) (v : Byte) : (s.nvWrite a v).dl = s.dl := rfl
@[simp] theorem State.nvWrite_stray (s : State) (a : Nat) (v : Byte) : (s.nvWrite a v).stray = s.stray := rfl
@[simp] theorem State.nvWrite_synchronized (s : State) (a : Nat) (v : Byte) : (s.nvWrite a v).synchronized = s.synchronized := rfl
@[simp] theorem State.nvWrite_CH (s : State) (a : Nat) (v : Byte) : (s.nvWrite a v).CH = s.CH := rfl
@[simp] theorem State.nvWrite_failsafeOut (s : State) (a : Nat) (v : Byte) : (s.nvWrite a v).failsafeOut = s.failsafeOut := rfl
@[simp] theorem State.nvWrite_calState (s : State) (a : Nat) (v : Byte) : (s.nvWrite a v).calState = s.calState := rfl
@[simp] theorem State.nvWrite_MIN (s : State) (a : Nat) (v : Byte) : (s.nvWrite a v).MIN = s.MIN := rfl
@[simp] theorem State.nvWrite_MAX (s : State) (a : Nat) (v : Byte) : (s.nvWrite a v).MAX = s.MAX := rfl
@[simp] theorem State.nvWrite_PW (s : State) (a : Nat) (v : Byte) : (s.nvWrite a v).PW = s.PW := rfl
@[simp] theorem State.nvWrite_parity (s : State) (a : Nat) (v : Byte) : (s.nvWrite a v).parity = s.parity := rfl
@[simp] theorem State.nvWrite_OUT (s : State) (a : Nat) (v : Byte) : (s.nvWrite a v).OUT = s.OUT := rfl
@[simp] theorem State.nvWrite_NV (s : State) (a : Nat) (v : Byte) : (s.nvWrite a v).NV = Memory.write s.NV a v := rfl
@[simp] theorem State.nvWrite_par (s : State) (a : Nat) (v : Byte) : (s.nvWrite a v).par = s.par := rfl
@[simp] theorem State.nvWrite_ports (s : State) (a : Nat) (v : Byte) : (s.nvWrite a v).ports = s.ports := rfl
@[simp] theorem State.nvWrite_script (s : State) (a : Nat) (v : Byte) : (s.nvWrite a v).script = s.script := rfl
@[simp] theorem State.nvWrite_events (s : State) (a : Nat) (v : Byte) : (s.nvWrite a v).events = s.events := rfl
@[simp] theorem State.nvWrite_work (s : State) (a : Nat) (v : Byte) : (s.nvWrite a v).work = s.work := rfl

@[simp] theorem State.assertLine_cp (s : State) (k : Output) : (s.assertLine k).cp = s.cp := rfl
@[simp] theorem State.assertLine_idx (s : State) (k : Output) : (s.assertLine k).idx = s.idx := rfl
@[simp] theorem State.assertLine_F (s : State) (k : Output) : (s.assertLine k).F = s.F := rfl
@[simp] theorem State.assertLine_now (s : State) (k : Output) : (s.assertLine k).now = s.now := rfl
@[simp] theorem State.assertLine_T (s : State) (k : Output) : (s.assertLine k).T = s.T := rfl
@[simp] theorem State.assertLine_dl (s : State) (k : Output) : (s.assertLine k).dl = s.now + ticks (s.PW.get k) := rfl
@[simp] theorem State.assertLine_stray (s : State) (k : Output) : (s.assertLine k).stray = s.stray := rfl
@[simp] theorem State.assertLine_synchronized (s : State) (k : Output) : (s.assertLine k).synchronized = s.synchronized := rfl
@[simp] theorem State.assertLine_CH (s : State) (k : Output) : (s.assertLine k).CH = s.CH := rfl
@[simp] theorem State.assertLine_failsafeOut (s : State) (k : Output) : (s.assertLine k).failsafeOut = s.failsafeOut := rfl
@[simp] theorem State.assertLine_calState (s : State) (k : Output) : (s.assertLine k).calState = s.calState := rfl
@[simp] theorem State.assertLine_MIN (s : State) (k : Output) : (s.assertLine k).MIN = s.MIN := rfl
@[simp] theorem State.assertLine_MAX (s : State) (k : Output) : (s.assertLine k).MAX = s.MAX := rfl
@[simp] theorem State.assertLine_PW (s : State) (k : Output) : (s.assertLine k).PW = s.PW := rfl
@[simp] theorem State.assertLine_parity (s : State) (k : Output) : (s.assertLine k).parity = s.parity := rfl
@[simp] theorem State.assertLine_OUT (s : State) (k : Output) : (s.assertLine k).OUT = s.OUT.set k true := rfl
@[simp] theorem State.assertLine_NV (s : State) (k : Output) : (s.assertLine k).NV = s.NV := rfl
@[simp] theorem State.assertLine_par (s : State) (k : Output) : (s.assertLine k).par = s.par := rfl
@[simp] theorem State.assertLine_ports (s : State) (k : Output) : (s.assertLine k).ports = s.ports := rfl
@[simp] theorem State.assertLine_script (s : State) (k : Output) : (s.assertLine k).script = s.script := rfl
@[simp] theorem State.assertLine_events (s : State) (k : Output) : (s.assertLine k).events = s.events := rfl
@[simp] theorem State.assertLine_work (s : State) (k : Output) : (s.assertLine k).work = s.work := rfl

@[simp] theorem State.deassertLine_cp (s : State) (k : Output) : (s.deassertLine k).cp = s.cp := rfl
@[simp] theorem State.deassertLine_idx (s : State) (k : Output) : (s.deassertLine k).idx = s.idx := rfl
@[simp] theorem State.deassertLine_F (s : State) (k : Output) : (s.deassertLine k).F = s.F := rfl
@[simp] theorem State.deassertLine_now (s : State) (k : Output) : (s.deassertLine k).now = s.now := rfl
@[simp] theorem State.deassertLine_T (s : State) (k : Output) : (s.deassertLine k).T = s.T := rfl
@[simp] theorem State.deassertLine_dl (s : State) (k : Output) : (s.deassertLine k).dl = s.dl := rfl
@[simp] theorem State.deassertLine_stray (s : State) (k : Output) : (s.deassertLine k).stray = s.stray := rfl
@[simp] theorem State.deassertLine_synchronized (s : State) (k : Output) : (s.deassertLine k).synchronized = s.synchronized := rfl
@[simp] theorem State.deassertLine_CH (s : State) (k : Output) : (s.deassertLine k).CH = s.CH := rfl
@[simp] theorem State.deassertLine_failsafeOut (s : State) (k : Output) : (s.deassertLine k).failsafeOut = s.failsafeOut := rfl
@[simp] theorem State.deassertLine_calState (s : State) (k : Output) : (s.deassertLine k).calState = s.calState := rfl
@[simp] theorem State.deassertLine_MIN (s : State) (k : Output) : (s.deassertLine k).MIN = s.MIN := rfl
@[simp] theorem State.deassertLine_MAX (s : State) (k : Output) : (s.deassertLine k).MAX = s.MAX := rfl
@[simp] theorem State.deassertLine_PW (s : State) (k : Output) : (s.deassertLine k).PW = s.PW := rfl
@[simp] theorem State.deassertLine_parity (s : State) (k : Output) : (s.deassertLine k).parity = s.parity := rfl
@[simp] theorem State.deassertLine_OUT (s : State) (k : Output) : (s.deassertLine k).OUT = s.OUT.set k false := rfl
@[simp] theorem State.deassertLine_NV (s : State) (k : Output) : (s.deassertLine k).NV = s.NV := rfl
@[simp] theorem State.deassertLine_par (s : State) (k : Output) : (s.deassertLine k).par = s.par := rfl
@[simp] theorem State.deassertLine_ports (s : State) (k : Output) : (s.deassertLine k).ports = s.ports := rfl
@[simp] theorem State.deassertLine_script (s : State) (k : Output) : (s.deassertLine k).script = s.script := rfl
@[simp] theorem State.deassertLine_events (s : State) (k : Output) : (s.deassertLine k).events = s.events := rfl
@[simp] theorem State.deassertLine_work (s : State) (k : Output) : (s.deassertLine k).work = s.work := rfl

@[simp] theorem State.advanceClock_cp (s : State) : (s.advanceClock).cp = s.cp := rfl
@[simp] theorem State.advanceClock_idx (s : State) : (s.advanceClock).idx = s.idx := rfl
@[simp] theorem State.advanceClock_F (s : State) : (s.advanceClock).F = s.F := rfl
@[simp] theorem State.advanceClock_now (s : State) : (s.advanceClock).now = s.now + 1#32 := rfl
@[simp] theorem State.advanceClock_T (s : State) : (s.advanceClock).T = s.T := rfl
@[simp] theorem State.advanceClock_dl (s : State) : (s.advanceClock).dl = s.dl := rfl
@[simp] theorem State.advanceClock_stray (s : State) : (s.advanceClock).stray = s.stray := rfl
@[simp] theorem State.advanceClock_synchronized (s : State) : (s.advanceClock).synchronized = s.synchronized := rfl
@[simp] theorem State.advanceClock_CH (s : State) : (s.advanceClock).CH = s.CH := rfl
@[simp] theorem State.advanceClock_failsafeOut (s : State) : (s.advanceClock).failsafeOut = s.failsafeOut := rfl
@[simp] theorem State.advanceClock_calState (s : State) : (s.advanceClock).calState = s.calState := rfl
@[simp] theorem State.advanceClock_MIN (s : State) : (s.advanceClock).MIN = s.MIN := rfl
@[simp] theorem State.advanceClock_MAX (s : State) : (s.advanceClock).MAX = s.MAX := rfl
@[simp] theorem State.advanceClock_PW (s : State) : (s.advanceClock).PW = s.PW := rfl
@[simp] theorem State.advanceClock_parity (s : State) : (s.advanceClock).parity = s.parity := rfl
@[simp] theorem State.advanceClock_OUT (s : State) : (s.advanceClock).OUT = s.OUT := rfl
@[simp] theorem State.advanceClock_NV (s : State) : (s.advanceClock).NV = s.NV := rfl
@[simp] theorem State.advanceClock_par (s : State) : (s.advanceClock).par = s.par := rfl
@[simp] theorem State.advanceClock_ports (s : State) : (s.advanceClock).ports = s.ports := rfl
@[simp] theorem State.advanceClock_script (s : State) : (s.advanceClock).script = s.script := rfl
@[simp] theorem State.advanceClock_events (s : State) : (s.advanceClock).events = s.events := rfl
@[simp] theorem State.advanceClock_work (s : State) : (s.advanceClock).work = s.work := rfl

@[simp] theorem State.atEdge_cp (s : State) : (s.atEdge).cp = s.cp := rfl
@[simp] theorem State.atEdge_idx (s : State) : (s.atEdge).idx = s.idx := rfl
@[simp] theorem State.atEdge_F (s : State) : (s.atEdge).F = s.F := rfl
@[simp] theorem State.atEdge_now (s : State) : (s.atEdge).now = s.now := rfl
@[simp] theorem State.atEdge_T (s : State) : (s.atEdge).T = s.T := rfl
@[simp] theorem State.atEdge_dl (s : State) : (s.atEdge).dl = s.dl := rfl
@[simp] theorem State.atEdge_stray (s : State) : (s.atEdge).stray = s.stray := rfl
@[simp] theorem State.atEdge_synchronized (s : State) : (s.atEdge).synchronized = s.synchronized := rfl
@[simp] theorem State.atEdge_CH (s : State) : (s.atEdge).CH = s.CH := rfl
@[simp] theorem State.atEdge_failsafeOut (s : State) : (s.atEdge).failsafeOut = s.failsafeOut := rfl
@[simp] theorem State.atEdge_calState (s : State) : (s.atEdge).calState = s.calState := rfl
@[simp] theorem State.atEdge_MIN (s : State) : (s.atEdge).MIN = s.MIN := rfl
@[simp] theorem State.atEdge_MAX (s : State) : (s.atEdge).MAX = s.MAX := rfl
@[simp] theorem State.atEdge_PW (s : State) : (s.atEdge).PW = s.PW := rfl
@[simp] theorem State.atEdge_parity (s : State) : (s.atEdge).parity = s.parity := rfl
@[simp] theorem State.atEdge_OUT (s : State) : (s.atEdge).OUT = s.OUT := rfl
@[simp] theorem State.atEdge_NV (s : State) : (s.atEdge).NV = s.NV := rfl
@[simp] theorem State.atEdge_par (s : State) : (s.atEdge).par = s.par := rfl
@[simp] theorem State.atEdge_ports (s : State) : (s.atEdge).ports = s.nextPorts := rfl
@[simp] theorem State.atEdge_script (s : State) : (s.atEdge).script = s.script.tail := rfl
@[simp] theorem State.atEdge_events (s : State) : (s.atEdge).events = s.events := rfl
@[simp] theorem State.atEdge_work (s : State) : (s.atEdge).work = s.work := rfl

@[simp] theorem State.nvLoad_cp (s : State) : (s.nvLoad).cp = s.cp := rfl
@[simp] theorem State.nvLoad_idx (s : State) : (s.nvLoad).idx = s.idx := rfl
@[simp] theorem State.nvLoad_F (s : State) : (s.nvLoad).F = s.F := rfl
@[simp] theorem State.nvLoad_now (s : State) : (s.nvLoad).now = s.now := rfl
@[simp] theorem State.nvLoad_T (s : State) : (s.nvLoad).T = s.T := rfl
@[simp] theorem State.nvLoad_dl (s : State) : (s.nvLoad).dl = s.dl := rfl
@[simp] theorem State.nvLoad_stray (s : State) : (s.nvLoad).stray = s.stray := rfl
@[simp] theorem State.nvLoad_synchronized (s : State) : (s.nvLoad).synchronized = s.synchronized := rfl
@[simp] theorem State.nvLoad_CH (s : State) : (s.nvLoad).CH = s.CH := rfl
@[simp] theorem State.nvLoad_failsafeOut (s : State) : (s.nvLoad).failsafeOut = s.failsafeOut := rfl
@[simp] theorem State.nvLoad_calState (s : State) : (s.nvLoad).calState = s.calState := rfl
@[simp] theorem State.nvLoad_PW (s : State) : (s.nvLoad).PW = s.PW := rfl
@[simp] theorem State.nvLoad_parity (s : State) : (s.nvLoad).parity = s.parity := rfl
@[simp] theorem State.nvLoad_OUT (s : State) : (s.nvLoad).OUT = s.OUT := rfl
@[simp] theorem State.nvLoad_NV (s : State) : (s.nvLoad).NV = s.NV := rfl
@[simp] theorem State.nvLoad_par (s : State) : (s.nvLoad).par = s.par := rfl
@[simp] theorem State.nvLoad_ports (s : State) : (s.nvLoad).ports = s.ports := rfl
@[simp] theorem State.nvLoad_script (s : State) : (s.nvLoad).script = s.script := rfl
@[simp] theorem State.nvLoad_events (s : State) : (s.nvLoad).events = s.events := rfl
@[simp] theorem State.nvLoad_work (s : State) : (s.nvLoad).work = s.work := rfl

@[simp] theorem State.nvStore_cp (s : State) : (s.nvStore).cp = s.cp := rfl
@[simp] theorem State.nvStore_idx (s : State) : (s.nvStore).idx = s.idx := rfl
@[simp] theorem State.nvStore_F (s : State) : (s.nvStore).F = s.F := rfl
@[simp] theorem State.nvStore_now (s : State) : (s.nvStore).now = s.now := rfl
@[simp] theorem State.nvStore_T (s : State) : (s.nvStore).T = s.T := rfl
@[simp] theorem State.nvStore_dl (s : State) : (s.nvStore).dl = s.dl := rfl
@[simp] theorem State.nvStore_stray (s : State) : (s.nvStore).stray = s.stray := rfl
@[simp] theorem State.nvStore_synchronized (s : State) : (s.nvStore).synchronized = s.synchronized := rfl
@[simp] theorem State.nvStore_CH (s : State) : (s.nvStore).CH = s.CH := rfl
@[simp] theorem State.nvStore_failsafeOut (s : State) : (s.nvStore).failsafeOut = s.failsafeOut := rfl
@[simp] theorem State.nvStore_calState (s : State) : (s.nvStore).calState = s.calState := rfl
@[simp] theorem State.nvStore_MIN (s : State) : (s.nvStore).MIN = s.MIN := rfl
@[simp] theorem State.nvStore_MAX (s : State) : (s.nvStore).MAX = s.MAX := rfl
@[simp] theorem State.nvStore_PW (s : State) : (s.nvStore).PW = s.PW := rfl
@[simp] theorem State.nvStore_parity (s : State) : (s.nvStore).parity = s.parity := rfl
@[simp] theorem State.nvStore_OUT (s : State) : (s.nvStore).OUT = s.OUT := rfl
@[simp] theorem State.nvStore_par (s : State) : (s.nvStore).par = s.par := rfl
@[simp] theorem State.nvStore_ports (s : State) : (s.nvStore).ports = s.ports := rfl
@[simp] theorem State.nvStore_script (s : State) : (s.nvStore).script = s.script := rfl
@[simp] theorem State.nvStore_events (s : State) : (s.nvStore).events = s.events := rfl
@[simp] theorem State.nvStore_work (s : State) : (s.nvStore).work = s.work := rfl

@[simp] theorem State.nvFormat_cp (s : State) : (s.nvFormat).cp = s.cp := rfl
@[simp] theorem State.nvFormat_idx (s : State) : (s.nvFormat).idx = s.idx := rfl
@[simp] theorem State.nvFormat_F (s : State) : (s.nvFormat).F = s.F := rfl
@[simp] theorem State.nvFormat_now (s : State) : (s.nvFormat).now = s.now := rfl
@[simp] theorem State.nvFormat_T (s : State) : (s.nvFormat).T = s.T := rfl
@[simp] theorem State.nvFormat_dl (s : State) : (s.nvFormat).dl = s.dl := rfl
@[simp] theorem State.nvFormat_stray (s : State) : (s.nvFormat).stray = s.stray := rfl
@[simp] theorem State.nvFormat_synchronized (s : State) : (s.nvFormat).synchronized = s.synchronized := rfl
@[simp] theorem State.nvFormat_CH (s : State) : (s.nvFormat).CH = s.CH := rfl
@[simp] theorem State.nvFormat_failsafeOut (s : State) : (s.nvFormat).failsafeOut = s.failsafeOut := rfl
@[simp] theorem State.nvFormat_calState (s : State) : (s.nvFormat).calState = s.calState := rfl
@[simp] theorem State.nvFormat_MIN (s : State) : (s.nvFormat).MIN = s.MIN := rfl
@[simp] theorem State.nvFormat_MAX (s : State) : (s.nvFormat).MAX = s.MAX := rfl
@[simp] theorem State.nvFormat_PW (s : State) : (s.nvFormat).PW = s.PW := rfl
@[simp] theorem State.nvFormat_parity (s : State) : (s.nvFormat).parity = s.parity := rfl
@[simp] theorem State.nvFormat_OUT (s : State) : (s.nvFormat).OUT = s.OUT := rfl
@[simp] theorem State.nvFormat_par (s : State) : (s.nvFormat).par = s.par := rfl
@[simp] theorem State.nvFormat_ports (s : State) : (s.nvFormat).ports = s.ports := rfl
@[simp] theorem State.nvFormat_script (s : State) : (s.nvFormat).script = s.script := rfl
@[simp] theorem State.nvFormat_events (s : State) : (s.nvFormat).events = s.events := rfl
@[simp] theorem State.nvFormat_work (s : State) : (s.nvFormat).work = s.work := rfl

@[simp] theorem State.setBound_cp (s : State) (a : Nat) (raw : Bound) : (s.setBound a raw).cp = s.cp := by unfold State.setBound; split <;> rfl
@[simp] theorem State.setBound_idx (s : State) (a : Nat) (raw : Bound) : (s.setBound a raw).idx = s.idx := by unfold State.setBound; split <;> rfl
@[simp] theorem State.setBound_F (s : State) (a : Nat) (raw : Bound) : (s.setBound a raw).F = s.F := by unfold State.setBound; split <;> rfl
@[simp] theorem State.setBound_now (s : State) (a : Nat) (raw : Bound) : (s.setBound a raw).now = s.now := by unfold State.setBound; split <;> rfl
@[simp] theorem State.setBound_T (s : State) (a : Nat) (raw : Bound) : (s.setBound a raw).T = s.T := by unfold State.setBound; split <;> rfl
@[simp] theorem State.setBound_dl (s : State) (a : Nat) (raw : Bound) : (s.setBound a raw).dl = s.dl := by unfold State.setBound; split <;> rfl
@[simp] theorem State.setBound_stray (s : State) (a : Nat) (raw : Bound) : (s.setBound a raw).stray = s.stray := by unfold State.setBound; split <;> rfl
@[simp] theorem State.setBound_synchronized (s : State) (a : Nat) (raw : Bound) : (s.setBound a raw).synchronized = s.synchronized := by unfold State.setBound; split <;> rfl
@[simp] theorem State.setBound_CH (s : State) (a : Nat) (raw : Bound) : (s.setBound a raw).CH = s.CH := by unfold State.setBound; split <;> rfl
@[simp] theorem State.setBound_failsafeOut (s : State) (a : Nat) (raw : Bound) : (s.setBound a raw).failsafeOut = s.failsafeOut := by unfold State.setBound; split <;> rfl
@[simp] theorem State.setBound_calState (s : State) (a : Nat) (raw : Bound) : (s.setBound a raw).calState = s.calState := by unfold State.setBound; split <;> rfl
@[simp] theorem State.setBound_PW (s : State) (a : Nat) (raw : Bound) : (s.setBound a raw).PW = s.PW := by unfold State.setBound; split <;> rfl
@[simp] theorem State.setBound_parity (s : State) (a : Nat) (raw : Bound) : (s.setBound a raw).parity = s.parity := by unfold State.setBound; split <;> rfl
@[simp] theorem State.setBound_OUT (s : State) (a : Nat) (raw : Bound) : (s.setBound a raw).OUT = s.OUT := by unfold State.setBound; split <;> rfl
@[simp] theorem State.setBound_NV (s : State) (a : Nat) (raw : Bound) : (s.setBound a raw).NV = s.NV := by unfold State.setBound; split <;> rfl
@[simp] theorem State.setBound_par (s : State) (a : Nat) (raw : Bound) : (s.setBound a raw).par = s.par := by unfold State.setBound; split <;> rfl
@[simp] theorem State.setBound_ports (s : State) (a : Nat) (raw : Bound) : (s.setBound a raw).ports = s.ports := by unfold State.setBound; split <;> rfl
@[simp] theorem State.setBound_script (s : State) (a : Nat) (raw : Bound) : (s.setBound a raw).script = s.script := by unfold State.setBound; split <;> rfl
@[simp] theorem State.setBound_events (s : State) (a : Nat) (raw : Bound) : (s.setBound a raw).events = s.events := by unfold State.setBound; split <;> rfl
@[simp] theorem State.setBound_work (s : State) (a : Nat) (raw : Bound) : (s.setBound a raw).work = s.work := by unfold State.setBound; split <;> rfl

/-! ### What an edge selects, by the level of `rst` before it and at it -/

theorem fetch_held {s : State} (h : s.nextPorts.rst = true) : s.fetch = [] := by simp [State.fetch, edgeCodes, h]

theorem fetch_release {s : State} (h : s.nextPorts.rst = false) (hs : s.ports.rst = true) :
    s.fetch = [.reset s.nextPorts.fmtReq, .tick] := by
  simp [State.fetch, edgeCodes, h, hs, Code.operation, decode]

theorem fetch_tick {s : State} (h : s.nextPorts.rst = false) (hs : s.ports.rst = false) : s.fetch = [.tick] := by
  simp [State.fetch, edgeCodes, h, hs, Code.operation, decode]

end Sys2Proof.Machine
end

