-- ==== Sys2Proof/Laws/Ops.lean ====
section
/-! SUPPORT. The laws of the shared operations: sequencing, registers by channel and line, the store, its procedures, and taking
an error event. -/

namespace Sys2Proof

@[simp] theorem PerChannel.get_of {α : Type} (f : Channel → α) (c : Channel) : (PerChannel.of f).get c = f c := by
  cases c <;> rfl

@[simp] theorem PerOutput.get_of {α : Type} (f : Output → α) (k : Output) : (PerOutput.of f).get k = f k := by
  cases k <;> rfl

theorem PerChannel.get_set {α : Type} (p : PerChannel α) (c d : Channel) (v : α) :
    (p.set c v).get d = if d = c then v else p.get d := by
  cases c <;> cases d <;> rfl

theorem PerOutput.get_set {α : Type} (p : PerOutput α) (k l : Output) (v : α) :
    (p.set k v).get l = if l = k then v else p.get l := by
  cases k <;> cases l <;> rfl

/-- Two families of channel registers with the same four values are equal. -/
theorem PerChannel.ext_get {α : Type} {p q : PerChannel α} (h : ∀ c, p.get c = q.get c) : p = q := by
  have h0 := h .rudder
  have h1 := h .throttle
  have h2 := h .aileron
  have h3 := h .elevator
  cases p
  cases q
  simp_all [PerChannel.get]

/-- Two families of output registers with the same four values are equal. -/
theorem PerOutput.ext_get {α : Type} {p q : PerOutput α} (h : ∀ k, p.get k = q.get k) : p = q := by
  have h0 := h .thr1
  have h1 := h .thr2
  have h2 := h .elv1
  have h3 := h .elv2
  cases p
  cases q
  simp_all [PerOutput.get]

namespace Machine

/-! ### Sequencing -/

@[simp] theorem andThen_next (s : State) (f : State → Result) : andThen (.next s) f = f s := rfl

@[simp] theorem andThen_fault (e : Fault) (f : State → Result) : andThen (.fault e) f = .fault e := rfl

@[simp] theorem andThen_refused (e : Refusal) (f : State → Result) : andThen (.refused e) f = .refused e := rfl

/-- A sequence answers a next state exactly when both parts do. -/
theorem andThen_eq_next {r : Result} {f : State → Result} {t : State} :
    andThen r f = .next t ↔ ∃ s, r = .next s ∧ f s = .next t := by
  cases r <;> simp [andThen]

theorem andThen_assoc (r : Result) (f g : State → Result) :
    andThen (andThen r f) g = andThen r (fun s => andThen (f s) g) := by
  cases r <;> rfl

/-! ### The store -/

theorem Memory.lookup_put (m : Memory) (a b : Nat) (v : Byte) :
    Memory.lookup (Memory.put m a v) b = if b = a then some v else Memory.lookup m b := by
  induction m with
  | nil => simp [Memory.put, Memory.lookup]
  | cons x m ih =>
    obtain ⟨c, w⟩ := x
    unfold Memory.put
    split
    · simp [Memory.lookup]
    · split
      · rename_i hac
        by_cases hb : b = c <;> simp [Memory.lookup, hb, hac]
      · simp only [Memory.lookup, ih]
        by_cases hb : b = c <;> by_cases ha : b = a <;> simp_all

theorem Memory.lookup_none_of_lt {m : Memory} {a : Nat} (h : ∀ x ∈ m, a < x.1) : Memory.lookup m a = none := by
  induction m with
  | nil => rfl
  | cons x m ih =>
    have hx := h x (by simp)
    have : a ≠ x.1 := by omega
    simp [Memory.lookup, this, ih (fun y hy => h y (by simp [hy]))]

theorem Memory.lookup_erase {m : Memory} (hm : m.Pairwise (fun x y => x.1 < y.1)) (a b : Nat) :
    Memory.lookup (Memory.erase m a) b = if b = a then none else Memory.lookup m b := by
  induction m with
  | nil => simp [Memory.erase, Memory.lookup]
  | cons x m ih =>
    obtain ⟨c, w⟩ := x
    obtain ⟨hx, hm'⟩ := List.pairwise_cons.mp hm
    unfold Memory.erase
    by_cases hac : a = c
    · subst hac
      by_cases hb : b = a
      · subst hb
        simp [Memory.lookup_none_of_lt hx]
      · simp [Memory.lookup, hb]
    · simp only [hac, if_false, Memory.lookup, ih hm']
      by_cases hb : b = a <;> by_cases hbc : b = c <;> simp_all

/-- A read after a write: the byte written at its address, every other address as before. -/
theorem Memory.read_write {m : Memory} (hm : Memory.wf m) (a b : Nat) (v : Byte) :
    Memory.read (Memory.write m a v) b = if b = a then v else Memory.read m b := by
  unfold Memory.read Memory.write
  split
  · rename_i hv
    rw [Memory.lookup_erase hm.1]
    by_cases hb : b = a <;> simp [hb, hv]
  · rw [Memory.lookup_put]
    by_cases hb : b = a <;> simp [hb]

theorem Memory.mem_put {m : Memory} {a : Nat} {v : Byte} {x : Host.Cell} (h : x ∈ Memory.put m a v) :
    x = (a, v) ∨ x ∈ m := by
  induction m with
  | nil => simpa [Memory.put] using h
  | cons y m ih =>
    obtain ⟨c, w⟩ := y
    unfold Memory.put at h
    split at h
    · simpa using h
    · split at h
      · rcases List.mem_cons.mp h with h | h
        · exact .inl h
        · exact .inr (by simp [h])
      · rcases List.mem_cons.mp h with h | h
        · exact .inr (by simp [h])
        · rcases ih h with h | h
          · exact .inl h
          · exact .inr (by simp [h])

theorem Memory.mem_erase {m : Memory} {a : Nat} {x : Host.Cell} (h : x ∈ Memory.erase m a) : x ∈ m := by
  induction m with
  | nil => simp [Memory.erase] at h
  | cons y m ih =>
    obtain ⟨c, w⟩ := y
    unfold Memory.erase at h
    split at h
    · simp [h]
    · rcases List.mem_cons.mp h with h | h
      · simp [h]
      · simp [ih h]

theorem Memory.put_pairwise {m : Memory} (hm : m.Pairwise (fun x y => x.1 < y.1)) (a : Nat) (v : Byte) :
    (Memory.put m a v).Pairwise (fun x y => x.1 < y.1) := by
  induction m with
  | nil => simp [Memory.put]
  | cons y m ih =>
    obtain ⟨c, w⟩ := y
    obtain ⟨hy, hm'⟩ := List.pairwise_cons.mp hm
    unfold Memory.put
    split
    · rename_i hac
      refine List.pairwise_cons.mpr ⟨fun x hx => ?_, hm⟩
      rcases List.mem_cons.mp hx with rfl | hx
      · exact hac
      · exact lt_trans hac (hy x hx)
    · split
      · rename_i hac
        exact List.pairwise_cons.mpr ⟨fun x hx => hac ▸ hy x hx, hm'⟩
      · refine List.pairwise_cons.mpr ⟨fun x hx => ?_, ih hm'⟩
        rcases Memory.mem_put hx with rfl | hx
        · simp only
          omega
        · exact hy x hx

theorem Memory.erase_pairwise {m : Memory} (hm : m.Pairwise (fun x y => x.1 < y.1)) (a : Nat) :
    (Memory.erase m a).Pairwise (fun x y => x.1 < y.1) := by
  induction m with
  | nil => simp [Memory.erase]
  | cons y m ih =>
    obtain ⟨hy, hm'⟩ := List.pairwise_cons.mp hm
    unfold Memory.erase
    split
    · exact hm'
    · exact List.pairwise_cons.mpr ⟨fun x hx => hy x (Memory.mem_erase hx), ih hm'⟩

/-- A write inside the store space keeps the canonical form. -/
theorem Memory.write_wf {m : Memory} (hm : Memory.wf m) {a : Nat} (ha : a < Config.nvSlots) (v : Byte) :
    Memory.wf (Memory.write m a v) := by
  unfold Memory.write
  split
  · exact ⟨Memory.erase_pairwise hm.1 a, fun x hx => hm.2 x (Memory.mem_erase hx)⟩
  · rename_i hv
    refine ⟨Memory.put_pairwise hm.1 a v, fun x hx => ?_⟩
    rcases Memory.mem_put hx with rfl | hx
    · exact ⟨ha, hv⟩
    · exact hm.2 x hx

theorem Memory.lookup_of_mem {m : Memory} (hm : m.Pairwise (fun x y => x.1 < y.1)) {x : Host.Cell} (hx : x ∈ m) :
    Memory.lookup m x.1 = some x.2 := by
  induction m with
  | nil => simp at hx
  | cons y m ih =>
    obtain ⟨c, w⟩ := y
    obtain ⟨hy, hm'⟩ := List.pairwise_cons.mp hm
    rcases List.mem_cons.mp hx with rfl | hx
    · simp [Memory.lookup]
    · have h1 := hy x hx
      have : x.1 ≠ c := by simp only at h1; omega
      simp [Memory.lookup, this, ih hm' hx]

theorem Memory.wf_nil : Memory.wf [] := by decide

/-- The reset state's store has the canonical form. -/
theorem reset_store_wf : Memory.wf State.reset.NV := by decide

theorem usedSlots_lt : ∀ a ∈ usedSlots, a < Config.nvSlots := by decide

theorem usedSlots_nodup : usedSlots.Nodup := by decide

/-- Writes one after the other keep the canonical form. -/
theorem foldl_write_wf (g : Nat → Byte) (as : List Nat) (has : ∀ a ∈ as, a < Config.nvSlots) (m : Memory)
    (hm : Memory.wf m) : Memory.wf (as.foldl (fun m a => Memory.write m a (g a)) m) := by
  induction as generalizing m with
  | nil => exact hm
  | cons a as ih =>
    exact ih (fun b hb => has b (by simp [hb])) _ (Memory.write_wf hm (has a (by simp)) _)

/-- What is read after writes one after the other to distinct addresses. -/
theorem foldl_write_read (g : Nat → Byte) (as : List Nat) (has : ∀ a ∈ as, a < Config.nvSlots) (hn : as.Nodup)
    (m : Memory) (hm : Memory.wf m) (b : Nat) :
    Memory.read (as.foldl (fun m a => Memory.write m a (g a)) m) b = if b ∈ as then g b else Memory.read m b := by
  induction as generalizing m with
  | nil => simp
  | cons a as ih =>
    obtain ⟨ha, hn'⟩ := List.nodup_cons.mp hn
    have hw := Memory.write_wf hm (has a (by simp)) (g a)
    rw [List.foldl_cons, ih (fun c hc => has c (by simp [hc])) hn' _ hw, Memory.read_write hm]
    by_cases hba : b = a
    · subst hba
      simp [ha]
    · simp [hba]

/-- `writeUsed` keeps the canonical form. -/
theorem writeUsed_wf {m : Memory} (hm : Memory.wf m) (g : Nat → Byte) : Memory.wf (writeUsed m g) :=
  foldl_write_wf g usedSlots usedSlots_lt m hm

theorem mem_usedSlots {a : Nat} : a ∈ usedSlots ↔ a < 8 := List.mem_range

/-- `writeUsed`, all it does: slots 0 to 7 hold the bytes of `g`, every other address is as before. -/
theorem writeUsed_read {m : Memory} (hm : Memory.wf m) (g : Nat → Byte) (a : Nat) :
    Memory.read (writeUsed m g) a = if a < 8 then g a else Memory.read m a := by
  rw [writeUsed, foldl_write_read g usedSlots usedSlots_lt usedSlots_nodup m hm a]
  simp [mem_usedSlots]

/-- NV_STORE keeps the canonical form. -/
theorem nvStore_wf {s : State} (hs : Memory.wf s.NV) : Memory.wf s.nvStore.NV :=
  writeUsed_wf hs (fun a => storedOfRaw (s.bound a))

/-- NV_FORMAT keeps the canonical form. -/
theorem nvFormat_wf {s : State} (hs : Memory.wf s.NV) : Memory.wf s.nvFormat.NV :=
  writeUsed_wf hs formatByte

/-- A loaded bound as a number. -/
theorem rawOfStored_toNat (v : Byte) : (rawOfStored v).toNat = 10 * v.toNat := by
  have := v.isLt
  simp [rawOfStored, Config.nvScale, BitVec.toNat_mul, BitVec.toNat_setWidth]
  omega

/-- The stored byte of a bound below 2560. -/
theorem storedOfRaw_toNat {raw : Bound} (h : raw.toNat < 2560) : (storedOfRaw raw).toNat = raw.toNat / 10 := by
  have h' : raw.toNat / 10 < 256 := by omega
  simp [storedOfRaw, Config.nvScale, h', BitVec.toNat_ofNat, Nat.mod_eq_of_lt h']

/-! ### Fields of the frame buffer, in numerals -/

/-- R29: a ChannelValue is at most `CH_MAX`. -/
theorem channelValue_le_chMax (v : ChannelValue) : v.toNat ≤ Config.chMax := Nat.le_of_lt_succ v.isLt

theorem failsafeBit_eq (F : Vector Byte 25) : failsafeBit F = F[23].getLsbD 3 := rfl

theorem framePayload_eq (F : Vector Byte 25) : framePayload F = bytesValue ((F.toList.drop 1).take 22) := rfl

theorem unpackFrame_eq (F : Vector Byte 25) :
    unpackFrame F = ⟨F[0], Vector.ofFn (fun n : Fin 16 => slotOf F n.val), F[23], F[24]⟩ := rfl

theorem markersGood_eq (s : State) : s.markersGood = (s.F[0] == 0x0F#8 && s.F[24] == 0x00#8) := rfl

/-! ### Error events -/

@[simp] theorem takeEvent_ev1 (s : State) :
    s.takeEvent .ev1 = { s with events := s.events ++ [.ev1], synchronized := false, stray := false } := rfl

@[simp] theorem takeEvent_ev2 (s : State) :
    s.takeEvent .ev2 = { s with events := s.events ++ [.ev2], synchronized := false, stray := false } := rfl

theorem takeEvent_ev3 (s : State) :
    s.takeEvent .ev3 = { s.nvLoad with events := s.events ++ [.ev3] } := rfl

@[simp] theorem takeEvent_ev4 (s : State) : s.takeEvent .ev4 = { s with events := s.events ++ [.ev4] } := rfl

end Machine

end Sys2Proof
end

