-- ==== Sys2Proof/Laws/Dispatch.lean ====
section
/-! SUPPORT. The dispatch word and the operation map, said once as the listing of R112: which operations are selected at each
control point under which guards. -/

namespace Sys2Proof

@[simp] theorem ControlPoint.ofCode_code (c : ControlPoint) : ControlPoint.ofCode c.code = c := by
  cases c <;> rfl

@[simp] theorem ControlPoint.code_ofCode (c : BitVec 4) : (ControlPoint.ofCode c).code = c := by
  revert c
  decide

/-- The dispatch word of given field values (R93). -/
def wordOf (c : ControlPoint) (stray sync reached full marker trig cal span range : Bool) : BitVec 13 :=
  c.code ++ BitVec.ofBool stray ++ BitVec.ofBool sync ++ BitVec.ofBool reached ++ BitVec.ofBool full ++
    BitVec.ofBool marker ++ BitVec.ofBool trig ++ BitVec.ofBool cal ++ BitVec.ofBool span ++ BitVec.ofBool range

/-- The listing of R112: the operations selected for given field values. -/
def listing (c : ControlPoint) (stray sync reached full marker trig cal span range : Bool) : List Instr :=
  match c with
  | .top => if stray then [.topCheck] else if sync then [.frameStart] else [.probeStart]
  | .probe => if reached then (if stray then [.probeFail] else [.probeOk]) else [.stall]
  | .frame => if full then (if marker then [.frameDone] else [.frameBad]) else [.stall]
  | .cycle => [.decode, .decodeFs, .branch]
  | .cal =>
    if trig then (if cal then [.calExpand] else [.calEnter])
    else if cal then [.calExit] else if span then [.calCommit] else [.calReject]
  | .mix => if range then [.mixOk] else [.mixDegenerate]
  | .ack => if reached then [.ackEnd] else [.stall]
  | .wait1 => if reached then [.pulse1On] else [.stall]
  | .hold1 => if reached then [.pulse1Off] else [.stall]
  | .wait2 => if reached then [.pulse2On] else [.stall]
  | .hold2 => if reached then [.pulse2Off] else [.stall]
  | .reserved7 => [.reservedCp7]
  | .reserved12 | .reserved13 | .reserved14 | .reserved15 => [.reservedCp12To15]

/-- The guard bits kept by a mask. -/
def careOf (stray sync reached full marker trig cal span range : Bool) : BitVec 13 :=
  15#4 ++ BitVec.ofBool stray ++ BitVec.ofBool sync ++ BitVec.ofBool reached ++ BitVec.ofBool full ++
    BitVec.ofBool marker ++ BitVec.ofBool trig ++ BitVec.ofBool cal ++ BitVec.ofBool span ++ BitVec.ofBool range

theorem append_ofBool_and {w : Nat} (x y : BitVec w) (a b : Bool) :
    (x ++ BitVec.ofBool a) &&& (y ++ BitVec.ofBool b) = (x &&& y) ++ BitVec.ofBool (a && b) := by
  rw [BitVec.and_append]
  cases a <;> cases b <;> rfl

theorem code_and (c : ControlPoint) : c.code &&& 15#4 = c.code := by cases c <;> rfl

theorem wordOf_and (c : ControlPoint) (b8 b7 b6 b5 b4 b3 b2 b1 b0 m8 m7 m6 m5 m4 m3 m2 m1 m0 : Bool) :
    wordOf c b8 b7 b6 b5 b4 b3 b2 b1 b0 &&& careOf m8 m7 m6 m5 m4 m3 m2 m1 m0 =
      wordOf c (b8 && m8) (b7 && m7) (b6 && m6) (b5 && m5) (b4 && m4) (b3 && m3) (b2 && m2) (b1 && m1) (b0 && m0) := by
  unfold wordOf careOf
  refine (append_ofBool_and (w := 12) _ _ _ _).trans (congrArg (fun x : BitVec 12 => x ++ _) ?_)
  refine (append_ofBool_and (w := 11) _ _ _ _).trans (congrArg (fun x : BitVec 11 => x ++ _) ?_)
  refine (append_ofBool_and (w := 10) _ _ _ _).trans (congrArg (fun x : BitVec 10 => x ++ _) ?_)
  refine (append_ofBool_and (w := 9) _ _ _ _).trans (congrArg (fun x : BitVec 9 => x ++ _) ?_)
  refine (append_ofBool_and (w := 8) _ _ _ _).trans (congrArg (fun x : BitVec 8 => x ++ _) ?_)
  refine (append_ofBool_and (w := 7) _ _ _ _).trans (congrArg (fun x : BitVec 7 => x ++ _) ?_)
  refine (append_ofBool_and (w := 6) _ _ _ _).trans (congrArg (fun x : BitVec 6 => x ++ _) ?_)
  refine (append_ofBool_and (w := 5) _ _ _ _).trans (congrArg (fun x : BitVec 5 => x ++ _) ?_)
  exact (append_ofBool_and (w := 4) _ _ _ _).trans (congrArg (fun x : BitVec 4 => x ++ _) (code_and c))

theorem and_and_eq {w : Nat} {dw care mask : BitVec w} (h : mask &&& care = mask) :
   dw &&& care &&& mask = dw &&& mask := by
  rw [BitVec.and_assoc, BitVec.and_comm care, h]

/-- Selection looks at the bits `care` only, when every row that has another bit in its mask is ruled out by them. -/
theorem selected_care {dw care : BitVec 13}
    (h : ∀ r ∈ operationMap, r.mask &&& care = r.mask ∨ dw &&& care &&& r.mask ≠ r.mtch &&& care) :
    selected dw = selected (dw &&& care) := by
  have key : ∀ r ∈ operationMap, r.hits dw = r.hits (dw &&& care) := by
    intro r hr
    unfold Row.hits
    rcases h r hr with h | h
    · rw [and_and_eq h]
    · have h1 : dw &&& r.mask ≠ r.mtch := by
        rintro h'; apply h; rw [← h']; ac_rfl
      have h2 : dw &&& care &&& r.mask ≠ r.mtch := by
        intro h'; apply h
        rw [← h']
        calc dw &&& care &&& r.mask = dw &&& (care &&& care) &&& r.mask := by rw [BitVec.and_self]
          _ = _ := by ac_rfl
      rw [beq_eq_false_iff_ne.mpr h1, beq_eq_false_iff_ne.mpr h2]
  have : firstRow dw = firstRow (dw &&& care) := by
    unfold firstRow
    congr 1
    exact List.find?_congr key
  unfold selected
  rw [this]

namespace Machine

theorem selected_wordOf (c : ControlPoint) (stray sync reached full marker trig cal span range : Bool) :
    selected (wordOf c stray sync reached full marker trig cal span range) =
      listing c stray sync reached full marker trig cal span range := by
  cases c
  case top =>
    rw [selected_care (care := careOf true true false false false false false false false) (by
      rw [wordOf_and]
      simp only [Bool.and_false, Bool.and_true]
      revert stray sync
      decide +kernel), wordOf_and]
    simp only [Bool.and_false, Bool.and_true, listing]
    revert stray sync
    decide +kernel
  case probe =>
    rw [selected_care (care := careOf true false true false false false false false false) (by
      rw [wordOf_and]
      simp only [Bool.and_false, Bool.and_true]
      revert stray reached
      decide +kernel), wordOf_and]
    simp only [Bool.and_false, Bool.and_true, listing]
    revert stray reached
    decide +kernel
  case frame =>
    rw [selected_care (care := careOf false false false true true false false false false) (by
      rw [wordOf_and]
      simp only [Bool.and_false, Bool.and_true]
      revert full marker
      decide +kernel), wordOf_and]
    simp only [Bool.and_false, Bool.and_true, listing]
    revert full marker
    decide +kernel
  case cycle =>
    rw [selected_care (care := careOf false false false false false false false false false) (by
      rw [wordOf_and]
      simp only [Bool.and_false]
      decide +kernel), wordOf_and]
    simp only [Bool.and_false, listing]
    decide +kernel
  case cal =>
    rw [selected_care (care := careOf false false false false false true true true false) (by
      rw [wordOf_and]
      simp only [Bool.and_false, Bool.and_true]
      revert trig cal span
      decide +kernel), wordOf_and]
    simp only [Bool.and_false, Bool.and_true, listing]
    revert trig cal span
    decide +kernel
  case mix =>
    rw [selected_care (care := careOf false false false false false false false false true) (by
      rw [wordOf_and]
      simp only [Bool.and_false, Bool.and_true]
      revert range
      decide +kernel), wordOf_and]
    simp only [Bool.and_false, Bool.and_true, listing]
    revert range
    decide +kernel
  case ack =>
    rw [selected_care (care := careOf false false true false false false false false false) (by
      rw [wordOf_and]
      simp only [Bool.and_false, Bool.and_true]
      revert reached
      decide +kernel), wordOf_and]
    simp only [Bool.and_false, Bool.and_true, listing]
    revert reached
    decide +kernel
  case wait1 =>
    rw [selected_care (care := careOf false false true false false false false false false) (by
      rw [wordOf_and]
      simp only [Bool.and_false, Bool.and_true]
      revert reached
      decide +kernel), wordOf_and]
    simp only [Bool.and_false, Bool.and_true, listing]
    revert reached
    decide +kernel
  case hold1 =>
    rw [selected_care (care := careOf false false true false false false false false false) (by
      rw [wordOf_and]
      simp only [Bool.and_false, Bool.and_true]
      revert reached
      decide +kernel), wordOf_and]
    simp only [Bool.and_false, Bool.and_true, listing]
    revert reached
    decide +kernel
  case wait2 =>
    rw [selected_care (care := careOf false false true false false false false false false) (by
      rw [wordOf_and]
      simp only [Bool.and_false, Bool.and_true]
      revert reached
      decide +kernel), wordOf_and]
    simp only [Bool.and_false, Bool.and_true, listing]
    revert reached
    decide +kernel
  case hold2 =>
    rw [selected_care (care := careOf false false true false false false false false false) (by
      rw [wordOf_and]
      simp only [Bool.and_false, Bool.and_true]
      revert reached
      decide +kernel), wordOf_and]
    simp only [Bool.and_false, Bool.and_true, listing]
    revert reached
    decide +kernel
  case reserved7 =>
    rw [selected_care (care := careOf false false false false false false false false false) (by
      rw [wordOf_and]
      simp only [Bool.and_false]
      decide +kernel), wordOf_and]
    simp only [Bool.and_false, listing]
    decide +kernel
  case reserved12 =>
    rw [selected_care (care := careOf false false false false false false false false false) (by
      rw [wordOf_and]
      simp only [Bool.and_false]
      decide +kernel), wordOf_and]
    simp only [Bool.and_false, listing]
    decide +kernel
  case reserved13 =>
    rw [selected_care (care := careOf false false false false false false false false false) (by
      rw [wordOf_and]
      simp only [Bool.and_false]
      decide +kernel), wordOf_and]
    simp only [Bool.and_false, listing]
    decide +kernel
  case reserved14 =>
    rw [selected_care (care := careOf false false false false false false false false false) (by
      rw [wordOf_and]
      simp only [Bool.and_false]
      decide +kernel), wordOf_and]
    simp only [Bool.and_false, listing]
    decide +kernel
  case reserved15 =>
    rw [selected_care (care := careOf false false false false false false false false false) (by
      rw [wordOf_and]
      simp only [Bool.and_false]
      decide +kernel), wordOf_and]
    simp only [Bool.and_false, listing]
    decide +kernel

/-- The operations selected in a state are those of R112's listing. -/
theorem selectedOps_eq (s : State) :
    s.selectedOps = listing s.cp s.stray s.synchronized s.gReached s.gFull s.gMarker s.ports.calTrig s.gCal s.gSpan
      s.gRange :=
  selected_wordOf _ _ _ _ _ _ _ _ _ _

/-- Selection looks at the fields of the dispatch word only. -/
theorem selectedOps_congr {s t : State} (h : s.dispatchWord = t.dispatchWord) : s.selectedOps = t.selectedOps := by
  rw [State.selectedOps, State.selectedOps, h]

/-- Each selected operation is a row of the operation map. -/
theorem mem_listing {c : ControlPoint} {b8 b7 b6 b5 b4 b3 b2 b1 b0 : Bool} {i : Instr}
    (h : i ∈ listing c b8 b7 b6 b5 b4 b3 b2 b1 b0) : i ∈ operationMap.map Row.instr := by
  cases c <;> simp only [listing] at h <;> (repeat' split at h) <;>
    simp only [List.mem_cons, List.not_mem_nil, or_false] at h <;>
    first
    | (subst h; decide)
    | (obtain rfl | rfl | rfl := h <;> decide)

/-- For a row of the operation map `perform` is `exec`. -/
theorem perform_eq_of_mem {i : Instr} (h : i ∈ operationMap.map Row.instr) (t : State) : perform i t = exec i t := by
  cases i <;> first | (simp only [perform, exec]; done) | simp [operationMap] at h

/-- RUN performs the meaning that exec gives to each selected row. -/
theorem perform_eq_exec {s : State} (t : State) {i : Instr} (h : i ∈ s.selectedOps) : perform i t = exec i t := by
  rw [selectedOps_eq] at h
  exact perform_eq_of_mem (mem_listing h) t

/-! ### The chain -/

/-- A chain at a control point whose wait has not ended, or at a reserved code, changes nothing. -/
theorem chain_stop {s : State} {i : Instr} (n : Nat) (hs : s.selectedOps = [i]) (hi : isStop i = true) :
    chain (n + 1) s = .next s := by
  cases i <;> simp_all [isStop, chain, performAll, perform, execStall, execReservedCp7, execReservedCp12To15, andThen]

/-- A chain that does not stop performs the selected operations and goes on. -/
theorem chain_go {s : State} (n : Nat) (hs : ∀ i ∈ s.selectedOps, isStop i = false) :
    chain (n + 1) s = andThen (performAll s.selectedOps s) (chain n) := by
  have : s.selectedOps.any isStop = false := by
    simpa using hs
  simp [chain, this]

end Machine

end Sys2Proof
end

