-- ==== Sys2Proof/Laws/Chain.lean ====
section
/-! SUPPORT. The chain of R112, one lemma for each control point and guard: what it does first and from where it goes on. -/

namespace Sys2Proof.Machine

/-- A chain that selects one operation performs it and goes on. -/
theorem chain_one {s : State} {i : Instr} (n : Nat) (hs : s.selectedOps = [i]) (hi : isStop i = false) :
    chain (n + 1) s = andThen (exec i s) (chain n) := by
  rw [chain_go n (by intro j hj; rw [hs, List.mem_singleton] at hj; rw [hj, hi]), hs, performAll,
    perform_eq_exec s (by simp [hs] : i ∈ s.selectedOps)]
  cases exec i s <;> rfl

/-! ### The guards as propositions -/

theorem gRange_iff (s : State) : s.gRange = true ↔ ∀ c, (s.MIN.get c).toNat < (s.MAX.get c).toNat := by
  simp only [State.gRange, rangeGood, Bool.and_eq_true, decide_eq_true_eq]
  exact ⟨fun h c => by cases c <;> simp only [PerChannel.get] <;> tauto,
    fun h => ⟨⟨⟨h .rudder, h .throttle⟩, h .aileron⟩, h .elevator⟩⟩

theorem gSpan_iff (s : State) : s.gSpan = true ↔ ∀ c, (s.MIN.get c).toNat + 600 < (s.MAX.get c).toNat := by
  simp only [State.gSpan, spanGood, Bool.and_eq_true, decide_eq_true_iff]
  exact ⟨fun h c => by cases c <;> simp only [PerChannel.get] <;> tauto,
    fun h => ⟨⟨⟨h .rudder, h .throttle⟩, h .aileron⟩, h .elevator⟩⟩

theorem gFull_iff (s : State) : s.gFull = true ↔ s.idx = 25#5 := by simp [State.gFull, Config.frameLen]

theorem gCal_iff (s : State) : s.gCal = true ↔ s.calState = .calibrating := by simp [State.gCal]

theorem gMarker_eq {s : State} (hc : s.cp = .frame) (hf : s.idx = 25#5) : s.gMarker = s.markersGood := by
  simp [State.gMarker, (gFull_iff s).2 hf, hc]

theorem gReached_eq {s : State} (hc : readsDeadline s.cp = true) : s.gReached = reached s.now s.dl := by
  simp [State.gReached, hc]

/-- A deadline less than half the clock's range ahead is not reached. -/
theorem reached_ahead {now d : Time} (hd : 0 < d.toNat) (h : d.toNat < 2 ^ 31) : reached now (now + d) = false := by
  have h32 := d.isLt
  have hn := now.isLt
  simp only [reached, BitVec.toNat_sub, BitVec.toNat_add, decide_eq_false_iff_not, Nat.not_lt]
  omega

@[simp] theorem reached_self (now : Time) : reached now now = true := by simp [reached]

/-! ### Waits -/

theorem chain_stall {s : State} (n : Nat) (hc : readsDeadline s.cp = true) (hr : reached s.now s.dl = false) :
    chain (n + 1) s = .next s := by
  apply chain_stop n (i := .stall) _ rfl
  rw [selectedOps_eq, gReached_eq hc, hr]
  revert hc
  cases s.cp <;> simp [listing, readsDeadline]

theorem chain_frameWait {s : State} (n : Nat) (hc : s.cp = .frame) (hi : s.idx ≠ 25#5) : chain (n + 1) s = .next s := by
  apply chain_stop n (i := .stall) _ rfl
  have : s.gFull = false := by rw [← Bool.not_eq_true, gFull_iff]; exact hi
  simp [selectedOps_eq, listing, hc, this]

theorem chain_reserved {s : State} (n : Nat)
    (hc : s.cp = .reserved7 ∨ s.cp = .reserved12 ∨ s.cp = .reserved13 ∨ s.cp = .reserved14 ∨ s.cp = .reserved15) :
    chain (n + 1) s = .next s := by
  rcases hc with hc | hc | hc | hc | hc
  · exact chain_stop n (i := .reservedCp7) (by simp [selectedOps_eq, listing, hc]) rfl
  all_goals exact chain_stop n (i := .reservedCp12To15) (by simp [selectedOps_eq, listing, hc]) rfl

/-! ### TOP and PROBE -/

theorem chain_topCheck {s : State} (n : Nat) (hc : s.cp = .top) (hs : s.stray = true) :
    chain (n + 1) s = chain n { s with events := s.events ++ [.ev1], synchronized := false, stray := false } := by
  rw [chain_one n (i := .topCheck) (by simp [selectedOps_eq, listing, hc, hs]) rfl]
  rfl

theorem chain_probeStart {s : State} (n : Nat) (hc : s.cp = .top) (hs : s.stray = false) (hy : s.synchronized = false) :
    chain (n + 2) s = .next { s with dl := s.now + 100#32, cp := .probe } := by
  rw [chain_one (n + 1) (i := .probeStart) (by simp [selectedOps_eq, listing, hc, hs, hy]) rfl]
  exact chain_stall n rfl (reached_ahead (by decide) (by decide))

theorem chain_frameStart {s : State} (n : Nat) (hc : s.cp = .top) (hs : s.stray = false) (hy : s.synchronized = true) :
    chain (n + 2) s = .next { s with idx := 0#5, cp := .frame } := by
  rw [chain_one (n + 1) (i := .frameStart) (by simp [selectedOps_eq, listing, hc, hs, hy]) rfl]
  exact chain_frameWait n rfl (by change 0#5 ≠ 25#5; decide)

/-- Where the chain stops when it comes to TOP (R114). -/
def State.settleTop (s : State) : State :=
  if s.stray then
    { s with events := s.events ++ [.ev1], synchronized := false, stray := false, dl := s.now + 100#32, cp := .probe }
  else if s.synchronized then { s with idx := 0#5, cp := .frame }
  else { s with dl := s.now + 100#32, cp := .probe }

theorem chain_top {s : State} (n : Nat) (hc : s.cp = .top) : chain (n + 3) s = .next s.settleTop := by
  unfold State.settleTop
  by_cases hs : s.stray = true
  · rw [if_pos hs, chain_topCheck (n + 2) hc hs]
    exact chain_probeStart n hc rfl rfl
  · rw [if_neg hs]
    rw [Bool.not_eq_true] at hs
    by_cases hy : s.synchronized = true
    · rw [if_pos hy]
      exact chain_frameStart (n + 1) hc hs hy
    · rw [if_neg hy]
      rw [Bool.not_eq_true] at hy
      exact chain_probeStart (n + 1) hc hs hy

theorem chain_probeOk {s : State} (n : Nat) (hc : s.cp = .probe) (hr : reached s.now s.dl = true) (hs : s.stray = false) :
    chain (n + 1) s = chain n { s with synchronized := true, cp := .top } := by
  rw [chain_one n (i := .probeOk)
    (by simp [selectedOps_eq, listing, hc, hs, hr, State.gReached, readsDeadline]) rfl]
  rfl

theorem chain_probeFail {s : State} (n : Nat) (hc : s.cp = .probe) (hr : reached s.now s.dl = true) (hs : s.stray = true) :
    chain (n + 1) s = chain n { s with stray := false, cp := .top } := by
  rw [chain_one n (i := .probeFail)
    (by simp [selectedOps_eq, listing, hc, hs, hr, State.gReached, readsDeadline]) rfl]
  rfl

/-! ### FRAME and CYCLE -/

theorem chain_frameDone {s : State} (n : Nat) (hc : s.cp = .frame) (hi : s.idx = 25#5) (hm : s.markersGood = true) :
    chain (n + 1) s = chain n { s with T := s.now, cp := .cycle } := by
  rw [chain_one n (i := .frameDone)
    (by simp [selectedOps_eq, listing, hc, (gFull_iff s).2 hi, gMarker_eq hc hi, hm]) rfl]
  rfl

theorem chain_frameBad {s : State} (n : Nat) (hc : s.cp = .frame) (hi : s.idx = 25#5) (hm : s.markersGood = false) :
    chain (n + 1) s = chain n { s with
      T := s.now, events := s.events ++ [.ev2], synchronized := false, stray := false, cp := .top } := by
  rw [chain_one n (i := .frameBad)
    (by simp [selectedOps_eq, listing, hc, (gFull_iff s).2 hi, gMarker_eq hc hi, hm]) rfl]
  rfl

theorem chain_cycle {s : State} (n : Nat) (hc : s.cp = .cycle) :
    chain (n + 1) s = chain n { s with
      CH := decodedChannels s.par.chSlot s.F, failsafeOut := failsafeBit s.F,
      cp := if s.ports.calTrig || s.gCal then .cal else .mix } := by
  have hs : s.selectedOps = [.decode, .decodeFs, .branch] := by simp [selectedOps_eq, listing, hc]
  rw [chain_go n (by simp [hs, isStop]), hs]
  rfl

/-! ### CAL and ACK -/

theorem chain_calEnter {s : State} (n : Nat) (hc : s.cp = .cal) (ht : s.ports.calTrig = true) (hs : s.calState = .idle) :
    chain (n + 1) s = andThen (execCalEnter s) (chain n) :=
  chain_one n (i := .calEnter) (by simp [selectedOps_eq, listing, hc, ht, hs, State.gCal]) rfl

theorem chain_calExpand {s : State} (n : Nat) (hc : s.cp = .cal) (ht : s.ports.calTrig = true)
    (hs : s.calState = .calibrating) : chain (n + 1) s = andThen (execCalExpand s) (chain n) :=
  chain_one n (i := .calExpand) (by simp [selectedOps_eq, listing, hc, ht, hs, State.gCal]) rfl

theorem chain_calExit {s : State} (n : Nat) (hc : s.cp = .cal) (ht : s.ports.calTrig = false)
    (hs : s.calState = .calibrating) : chain (n + 1) s = chain n { s with calState := .idle } := by
  rw [chain_one n (i := .calExit) (by simp [selectedOps_eq, listing, hc, ht, hs, State.gCal]) rfl]
  rfl

theorem chain_calCommit {s : State} (n : Nat) (hc : s.cp = .cal) (ht : s.ports.calTrig = false) (hs : s.calState = .idle)
    (hg : s.gSpan = true) : chain (n + 1) s = andThen (execCalCommit s) (chain n) :=
  chain_one n (i := .calCommit) (by simp [selectedOps_eq, listing, hc, ht, hs, hg, State.gCal]) rfl

theorem chain_calReject {s : State} (n : Nat) (hc : s.cp = .cal) (ht : s.ports.calTrig = false) (hs : s.calState = .idle)
    (hg : s.gSpan = false) : chain (n + 1) s = andThen (execCalReject s) (chain n) :=
  chain_one n (i := .calReject) (by simp [selectedOps_eq, listing, hc, ht, hs, hg, State.gCal]) rfl

theorem chain_ackEnd {s : State} (n : Nat) (hc : s.cp = .ack) (hr : reached s.now s.dl = true) :
    chain (n + 1) s = chain n { s with cp := .top } := by
  rw [chain_one n (i := .ackEnd) (by simp [selectedOps_eq, listing, hc, hr, State.gReached, readsDeadline]) rfl]
  rfl

/-! ### MIX and the scheduler -/

theorem chain_mixDegenerate {s : State} (n : Nat) (hc : s.cp = .mix) (hg : s.gRange = false) :
    chain (n + 1) s = chain n { s with events := s.events ++ [.ev4], cp := .top } := by
  rw [chain_one n (i := .mixDegenerate) (by simp [selectedOps_eq, listing, hc, hg]) rfl]
  rfl

theorem chain_mixOk {s : State} (n : Nat) (hc : s.cp = .mix) (hg : s.gRange = true) :
    chain (n + 1) s = andThen (execMixOk s) (chain n) :=
  chain_one n (i := .mixOk) (by simp [selectedOps_eq, listing, hc, hg]) rfl

theorem chain_pulse1On {s : State} (n : Nat) (hc : s.cp = .wait1) (hr : reached s.now s.dl = true) :
    chain (n + 1) s = chain n ((s.assertLine (slot1Line s.parity)).goto .hold1) := by
  rw [chain_one n (i := .pulse1On) (by simp [selectedOps_eq, listing, hc, hr, State.gReached, readsDeadline]) rfl]
  rfl

theorem chain_pulse1Off {s : State} (n : Nat) (hc : s.cp = .hold1) (hr : reached s.now s.dl = true) :
    chain (n + 1) s =
      chain n ({ s.deassertLine (slot1Line s.parity) with dl := s.T + Config.slot2Us }.goto .wait2) := by
  rw [chain_one n (i := .pulse1Off) (by simp [selectedOps_eq, listing, hc, hr, State.gReached, readsDeadline]) rfl]
  rfl

theorem chain_pulse2On {s : State} (n : Nat) (hc : s.cp = .wait2) (hr : reached s.now s.dl = true) :
    chain (n + 1) s = chain n ((s.assertLine (slot2Line s.parity)).goto .hold2) := by
  rw [chain_one n (i := .pulse2On) (by simp [selectedOps_eq, listing, hc, hr, State.gReached, readsDeadline]) rfl]
  rfl

theorem chain_pulse2Off {s : State} (n : Nat) (hc : s.cp = .hold2) (hr : reached s.now s.dl = true) :
    chain (n + 1) s =
      chain n ({ s.deassertLine (slot2Line s.parity) with parity := !s.parity }.goto .top) := by
  rw [chain_one n (i := .pulse2Off) (by simp [selectedOps_eq, listing, hc, hr, State.gReached, readsDeadline]) rfl]
  rfl

/-! ### TICK -/

/-- TICK at a control point that is not reserved, in its three parts (R111). -/
theorem execTick_go {s : State} (h : isReserved s.cp = false) :
    execTick s = andThen (bookByte { s with events := [] }) fun u =>
      andThen (execRun u) fun v => .next v.advanceClock := by
  simp [execTick, h]

/-- TICK at a reserved code: the state is frozen (R95, U7). -/
theorem execTick_reserved {s : State} (h : isReserved s.cp = true) : execTick s = .next { s with events := [] } := by
  have hc : s.cp = .reserved7 ∨ s.cp = .reserved12 ∨ s.cp = .reserved13 ∨ s.cp = .reserved14 ∨ s.cp = .reserved15 := by
    revert h
    cases s.cp <;> simp [isReserved]
  simp only [execTick, h, if_true]
  exact chain_reserved 11 hc

/-! ### The mixer's result -/

/-- What MIX_OK computes from good ranges: the four widths of R186 to R194. -/
def State.mixedWidths (s : State) : PerOutput Width :=
  let N (c : Channel) : Rat := normalize (s.MIN.get c) (s.MAX.get c) (s.CH.get c)
  let a := throttle1 (N .rudder) (N .throttle)
  let b := throttle2 (N .rudder) (N .throttle)
  ⟨toPulseWidth s.MIN.throttle s.MAX.throttle (clamp01 (a - excess b)),
   toPulseWidth s.MIN.throttle s.MAX.throttle (clamp01 (b - excess a)),
   toPulseWidth s.MIN.elevator s.MAX.elevator (clamp01 (elevator1 (N .elevator) (N .aileron))),
   toPulseWidth s.MIN.elevator s.MAX.elevator (clamp01 (1 - elevator2 (N .elevator) (N .aileron)))⟩

/-- MIX_OK with good ranges, in one update. -/
theorem execMixOk_of_range {s : State} (h : s.gRange = true) :
    execMixOk s = .next { s with PW := s.mixedWidths, dl := s.T + 1000#32, cp := .wait1 } := by
  simp [execMixOk, execNorm, h, andThen, execThrMix, execThrRedist, execElvMix, execToPw, State.goto, State.mixedWidths,
    Config.slot1Us, PerChannel.of]

end Sys2Proof.Machine
end

