-- ==== Sys2Proof/Laws/PerInstr.lean ====
section
/-! SUPPORT. A statement about every operation as syntax, one lemma for each: an operation has a code exactly when it is
selected by one, that is, when no other operation invokes it (R94). -/

namespace Sys2Proof.Laws.Encodable

/-- A code exists for an operation that is not an invoked procedure, and for no other. -/
def Statement (i : Instr) : Prop := (encode i).isSome = !Sys2Proof.Machine.isInvoked i

theorem topCheck : Statement (.topCheck) := rfl
theorem probeStart : Statement (.probeStart) := rfl
theorem frameStart : Statement (.frameStart) := rfl
theorem probeOk : Statement (.probeOk) := rfl
theorem probeFail : Statement (.probeFail) := rfl
theorem frameDone : Statement (.frameDone) := rfl
theorem frameBad : Statement (.frameBad) := rfl
theorem decode : Statement (.decode) := rfl
theorem decodeFs : Statement (.decodeFs) := rfl
theorem branch : Statement (.branch) := rfl
theorem calEnter : Statement (.calEnter) := rfl
theorem calExpand : Statement (.calExpand) := rfl
theorem calExit : Statement (.calExit) := rfl
theorem calCommit : Statement (.calCommit) := rfl
theorem calReject : Statement (.calReject) := rfl
theorem ackEnd : Statement (.ackEnd) := rfl
theorem mixDegenerate : Statement (.mixDegenerate) := rfl
theorem mixOk : Statement (.mixOk) := rfl
theorem pulse1On : Statement (.pulse1On) := rfl
theorem pulse1Off : Statement (.pulse1Off) := rfl
theorem pulse2On : Statement (.pulse2On) := rfl
theorem pulse2Off : Statement (.pulse2Off) := rfl
theorem reservedCp7 : Statement (.reservedCp7) := rfl
theorem reservedCp12To15 : Statement (.reservedCp12To15) := rfl
theorem stall : Statement (.stall) := rfl
theorem frame (gap : Nat) (f : WireFrame) : Statement (.frame gap f) := rfl
theorem nvByte (addr : BitVec 4) (v : Byte) : Statement (.nvByte addr v) := rfl
theorem desync : Statement (.desync) := rfl
theorem nvLoad : Statement (.nvLoad) := rfl
theorem nvStore : Statement (.nvStore) := rfl
theorem nvFormat : Statement (.nvFormat) := rfl
theorem norm : Statement (.norm) := rfl
theorem thrMix : Statement (.thrMix) := rfl
theorem thrRedist : Statement (.thrRedist) := rfl
theorem elvMix : Statement (.elvMix) := rfl
theorem toPw : Statement (.toPw) := rfl
theorem reset (fmtReq : Bool) : Statement (.reset fmtReq) := rfl
theorem tick : Statement (.tick) := rfl
theorem run : Statement (.run) := rfl
theorem rxAccept (b : Byte) : Statement (.rxAccept b) := rfl
theorem rxStray : Statement (.rxStray) := rfl

end Sys2Proof.Laws.Encodable
end

