-- ==== Sys2Proof/Tests/Slice0.lean ====
section
/-! SUPPORT. Tests on fixed values, and for each obligation with hypotheses a witness that meets them. The expected values of the tests
are those of spec/95_test_vectors.md (V-…) or of the examples in the rules, never the model's own answers. -/

namespace Sys2Proof.Tests

open Sys2Proof.Machine

/-! ### Helpers -/

/-- The outcome is a next state with the property. -/
def nextIs (p : State → Bool) : Result → Bool
  | .next t => p t
  | .fault _ => false
  | .refused _ => false

theorem exists_next {r : Result} {p : State → Bool} (h : nextIs p r = true) : ∃ t, r = .next t ∧ p t = true := by
  cases r with
  | next t => exact ⟨t, rfl, h⟩
  | fault e => cases h
  | refused e => cases h

/-- A property of all four channels. -/
def allChannels (p : Channel → Bool) : Bool := p .rudder && p .throttle && p .aileron && p .elevator

theorem forall_channel {p : Channel → Bool} (h : allChannels p = true) (c : Channel) : p c = true := by
  simp only [allChannels, Bool.and_eq_true] at h
  cases c <;> tauto

/-- `Safe` as a computation. -/
def safeCheck (s : State) : Bool :=
  (isWaiting s.cp || decide (s.cp = .top)) &&
  decide (s.cp = .frame → s.synchronized = true ∧ s.stray = false ∧ s.idx.toNat ≤ 24) &&
  decide (s.cp = .probe → s.synchronized = false) &&
  decide (s.OUT = expectedLines s.cp s.parity) &&
  (decide (s.calState = .idle) ||
    (allChannels (fun c => decide ((s.MIN.get c).toNat ≤ 1000 ∧ 1000 ≤ (s.MAX.get c).toNat ∧ (s.MAX.get c).toNat ≤ 2047)) &&
      decide (s.cp = .probe ∨ s.cp = .frame))) &&
  (!isScheduling s.cp ||
    (decide (s.calState = .idle) && s.synchronized &&
      allChannels (fun c => decide ((s.MIN.get c).toNat < (s.MAX.get c).toNat)) &&
      decide (880 ≤ s.PW.thr1.toNat ∧ s.PW.thr1.toNat ≤ 2537 ∧ 880 ≤ s.PW.thr2.toNat ∧ s.PW.thr2.toNat ≤ 2537 ∧
        880 ≤ s.PW.elv1.toNat ∧ s.PW.elv1.toNat ≤ 2537 ∧ 880 ≤ s.PW.elv2.toNat ∧ s.PW.elv2.toNat ≤ 2537))) &&
  decide (s.cp = .ack → s.calState = .idle) &&
  allChannels (fun c => decide ((s.MIN.get c).toNat ≤ 2550 ∧ (s.MAX.get c).toNat ≤ 2550)) &&
  decide (Memory.wf s.NV)

theorem safe_of_check {s : State} (h : safeCheck s = true) : Safe s := by
  simp only [safeCheck, Bool.and_eq_true, Bool.or_eq_true, decide_eq_true_eq, Bool.not_eq_true'] at h
  obtain ⟨⟨⟨⟨⟨⟨⟨⟨h1, h2⟩, h3⟩, h4⟩, h5⟩, h6⟩, h7⟩, h8⟩, h9⟩ := h
  refine ⟨h1, h2, h3, h4, fun hc => ?_, fun hc => ?_, h7, fun c => ?_, h9⟩
  · rcases h5 with h5 | ⟨h5, h5'⟩
    · rw [h5] at hc; cases hc
    · exact ⟨fun c => of_decide_eq_true (forall_channel h5 c), h5'⟩
  · rcases h6 with h6 | ⟨⟨⟨h6, h6'⟩, h6''⟩, hp⟩
    · rw [hc] at h6; cases h6
    · refine ⟨h6, h6', fun c => of_decide_eq_true (forall_channel h6'' c), fun k => ?_⟩
      cases k <;> simp only [PerOutput.get] <;> omega
  · exact of_decide_eq_true (forall_channel h8 c)

/-- `RangesGood` as a computation. -/
theorem ranges_of_check {s : State}
    (h : allChannels (fun c => decide ((s.MIN.get c).toNat < (s.MAX.get c).toNat)) = true) : s.RangesGood :=
  fun c => of_decide_eq_true (forall_channel h c)

/-- `SpansGood` as a computation. -/
theorem spans_of_check {s : State}
    (h : allChannels (fun c => decide ((s.MIN.get c).toNat + 600 < (s.MAX.get c).toNat)) = true) : s.SpansGood :=
  fun c => of_decide_eq_true (forall_channel h c)

/-- The same value for all channels, or all outputs. -/
def same (v : α) : PerChannel α := ⟨v, v, v, v⟩

/-- A state at a control point, as after reset otherwise. -/
def at' (c : ControlPoint) : State := { State.reset with cp := c }

/-- The same with these ranges on every channel. -/
def ranged (c : ControlPoint) (lo hi : Bound) : State := { at' c with MIN := same lo, MAX := same hi }

/-- The tick that delivers the last byte of a group of a header, 23 zeros and `trailer`, with the trigger level `trig`. -/
def last (trailer : Byte) (trig : Bool) : State :=
  { at' .frame with
    synchronized := true
    idx := 24#5
    F := State.reset.F.set 0 0x0F#8
    ports := ⟨false, false, true, trailer, trig⟩ }

theorem last_at (b : Byte) (trig : Bool) : (last b trig).AtLastByte := ⟨rfl, rfl, rfl⟩

/-- The scheduler's waits, with pulse widths at both ends of their range. -/
def scheduled (c : ControlPoint) : State :=
  { at' c with synchronized := true, PW := ⟨880#12, 880#12, 2537#12, 2537#12⟩, OUT := expectedLines c false }

/-- An open session with these bounds, at the last byte of a good frame. -/
def session (lo hi : Bound) (hold : BitVec 31) (trig : Bool) : State :=
  { last 0x00#8 trig with
    calState := .calibrating, MIN := same lo, MAX := same hi, par := ⟨SlotMap.identity, hold⟩ }

/-- The mixer's registers. -/
def mixing (CH : PerChannel ChannelValue) (MIN MAX : PerChannel Bound) : State :=
  { at' .mix with CH := CH, MIN := MIN, MAX := MAX }

/-! ### WellFormed refuses an ill-formed term of each kind -/

/-- A frame of zeros with these markers. -/
def zeroFrame (h t : Byte) : WireFrame := ⟨h, Vector.replicate 16 0#11, 0#8, t⟩

theorem test_wellFormed_header : (Instr.frame 0 (zeroFrame 0x0E#8 0x00#8)).wellFormed = false := by decide
theorem test_wellFormed_trailer : (Instr.frame 0 (zeroFrame 0x0F#8 0x04#8)).wellFormed = false := by decide
theorem test_wellFormed_frame : (Instr.frame 0 (zeroFrame 0x0F#8 0x00#8)).wellFormed = true := by decide
theorem test_wellFormed_slot : (Instr.nvByte 8#4 0#8).wellFormed = false := by decide

/-! ### Decoding of words written out from R84, R88, R92 to R94 and R96 -/

/-- V-DW-2, 1, 3 (0x1000 with bits 5:0 set). -/
theorem test_decode_top :
    decode (.dispatch 0b1000110000000#13 0) = .ok .topCheck ∧
    decode (.dispatch 0b1000000111111#13 0) = .ok .probeStart ∧
    decode (.dispatch 0b1000010000000#13 0) = .ok .frameStart := by decide

/-- V-DW-4, 5, 6, and 0x0060. -/
theorem test_decode_probe :
    decode (.dispatch 0b0000000000000#13 0) = .ok .stall ∧
    decode (.dispatch 0b0000001000000#13 0) = .ok .probeOk ∧
    decode (.dispatch 0b0000001100000#13 0) = .ok .probeOk ∧
    decode (.dispatch 0b0000101000000#13 0) = .ok .probeFail := by decide

/-- V-DW-7, 8, 9. -/
theorem test_decode_frame :
    decode (.dispatch 0b0001010000000#13 0) = .ok .stall ∧
    decode (.dispatch 0b0001010110000#13 0) = .ok .frameDone ∧
    decode (.dispatch 0b0001010100000#13 0) = .ok .frameBad := by decide

theorem test_decode_cycle :
    decode (.dispatch 0b1001010110000#13 0) = .ok .decode ∧
    decode (.dispatch 0b1001010110000#13 1) = .ok .decodeFs ∧
    decode (.dispatch 0b1001010110000#13 2) = .ok .branch ∧
    decode (.dispatch 0b1001010110000#13 3) = .error .noSuchStep := by decide

/-- V-DW-10, 11, 12, and CAL_EXPAND, CAL_EXIT. -/
theorem test_decode_cal :
    decode (.dispatch 0b1010010001000#13 0) = .ok .calEnter ∧
    decode (.dispatch 0b1010010001100#13 0) = .ok .calExpand ∧
    decode (.dispatch 0b1010010000100#13 0) = .ok .calExit ∧
    decode (.dispatch 0b1010010000011#13 0) = .ok .calCommit ∧
    decode (.dispatch 0b1010010000001#13 0) = .ok .calReject := by decide

/-- V-DW-13 to 16, and the other waits. -/
theorem test_decode_mix_scheduler_reserved :
    decode (.dispatch 0b1011010000011#13 0) = .ok .mixOk ∧
    decode (.dispatch 0b1011010000000#13 0) = .ok .mixDegenerate ∧
    decode (.dispatch 0b0110001000000#13 0) = .ok .ackEnd ∧
    decode (.dispatch 0b0010001000000#13 0) = .ok .pulse1On ∧
    decode (.dispatch 0b0011001000000#13 0) = .ok .pulse1Off ∧
    decode (.dispatch 0b0100001000000#13 0) = .ok .pulse2On ∧
    decode (.dispatch 0b0101111000000#13 0) = .ok .pulse2Off ∧
    decode (.dispatch 0b0111000000000#13 0) = .ok .reservedCp7 ∧
    decode (.dispatch 0b1101000000000#13 0) = .ok .reservedCp12To15 := by decide

theorem test_decode_ports :
    decode (.rstReleased false) = .ok (.reset false) ∧ decode .clockEdge = .ok .tick ∧ decode .tickPart2 = .ok .run ∧
    decode (.rx .frame 0x55#8) = .ok (.rxAccept 0x55#8) ∧ decode (.rx .probe 0x55#8) = .ok .rxStray ∧
    decode (.storeByte 7#4 204#8) = .ok (.nvByte 7#4 204#8) ∧
    decode (.storeByte 8#4 204#8) = .error .storeAddress := by decide

/-- V-DEC-18. -/
theorem test_decode_wire_all_slots :
    decode (.wire 0 [0x0F, 0xE8, 0x83, 0xFE, 0x00, 0x12, 0x16, 0x00, 0x01, 0x0C, 0x80, 0x00, 0x05, 0x30, 0xC0, 0x01,
      0x10, 0x90, 0x00, 0x05, 0x2C, 0x80, 0x01, 0x0C, 0x00]) =
    .ok (.frame 0 ⟨0x0F#8, #v[1000, 2000, 3, 777, 1, 2, 3, 4, 5, 6, 7, 8, 9, 10, 11, 12], 0x0C#8, 0x00#8⟩) := by
  decide

/-- R86, R87: a wrong header, a wrong trailer, 24 bytes. -/
theorem test_decode_wire_refused :
    decode (.wire 0 (List.replicate 25 0#8)) = .error .badHeader ∧
    decode (.wire 0 (0x0F#8 :: List.replicate 24 4#8)) = .error .badTrailer ∧
    decode (.wire 0 (List.replicate 24 0#8)) = .error .frameLength := by decide

/-! ### Operations -/

/-- V-DEC-17 and V-DEC-18 with CH_SLOT = (3, 2, 1, 0). -/
theorem test_decode_channels :
    decodedChannels SlotMap.identity #v[0x0F, 0xAC, 0x98, 0x38, 0xF8, 0xD0, 0xF7, 0xFF, 0xFF, 0xFF, 0xFF, 0xFF, 0xFF, 0xFF,
      0xFF, 0xFF, 0xFF, 0xFF, 0xFF, 0xFF, 0xFF, 0xFF, 0xFF, 0xF7, 0x00] = ⟨172, 1811, 992, 1000⟩ ∧
    decodedChannels ⟨3, 2, 1, 0, by decide⟩ #v[0x0F, 0xE8, 0x83, 0xFE, 0x00, 0x12, 0x16, 0x00, 0x01, 0x0C, 0x80, 0x00,
      0x05, 0x30, 0xC0, 0x01, 0x10, 0x90, 0x00, 0x05, 0x2C, 0x80, 0x01, 0x0C, 0x00] = ⟨777, 3, 2000, 1000⟩ := by
  decide

/-- V-FS. -/
theorem test_failsafe_bit :
    nextIs (fun t => t.failsafeOut) (exec .decodeFs { at' .cycle with F := State.reset.F.set 23 0x0C#8 }) = true ∧
    nextIs (fun t => !t.failsafeOut) (exec .decodeFs { at' .cycle with F := State.reset.F.set 23 0xF7#8 }) = true := by
  decide

/-- V-T-1, 2, 4, 5, 6, 7. -/
theorem test_reached :
    reached 4999#32 5000#32 = false ∧ reached 5000#32 5000#32 = true ∧ reached 5#32 0xFFFFFFF0#32 = true ∧
    reached 0xFFFFFFF0#32 5#32 = false ∧ reached 0x80000000#32 0#32 = false ∧ reached 0x7FFFFFFF#32 0#32 = true := by
  decide

/-- V-NV-1, V-NV-2. -/
theorem test_store_bytes :
    storedOfRaw 995#12 = 99#8 ∧ storedOfRaw 1596#12 = 159#8 ∧ storedOfRaw 2047#12 = 204#8 ∧ storedOfRaw 9#12 = 0#8 ∧
    rawOfStored 17#8 = 170#12 ∧ rawOfStored 255#8 = 2550#12 := by decide

/-- V-NV-4. -/
theorem test_nvStore :
    nextIs (fun t => decide ([0, 1, 2, 3, 4, 5, 6, 7].map t.nvRead = [30, 170, 35, 165, 100, 160, 25, 179]))
      (exec .nvStore { at' .cal with MIN := ⟨300, 352, 1000, 250⟩, MAX := ⟨1700, 1650, 1601, 1797⟩ }) = true := by
  decide

/-- The example of R167. -/
theorem test_nvLoad :
    nextIs (fun t => decide (t.MIN = ⟨170, 10, 10, 10⟩ ∧ t.MAX = ⟨1810, 2000, 2000, 2000⟩))
      (exec .nvLoad { at' .cal with NV := [(0, 17), (1, 181)] }) = true := by decide

/-- V-NV-3, on a store with slot 8 written. -/
theorem test_nvFormat :
    nextIs (fun t => decide (t.NV = [(8, 7)])) (exec .nvFormat { at' .cal with NV := [(0, 17), (1, 181), (8, 7)] }) = true := by
  decide

/-- R61: slot 5 is the aileron's maximum. -/
theorem test_nvByte : nextIs (fun t => decide (t.MAX = ⟨2000, 2000, 1810, 2000⟩)) (exec (.nvByte 5 181) (at' .cal)) = true := by
  decide

/-- V-MIX-3, V-MIX-7, V-MIX-12. -/
theorem test_mixOk_saturated :
    nextIs (fun t => decide (t.PW = ⟨2057, 991, 1524, 1524⟩))
      (exec .mixOk (mixing ⟨1811, 1811, 992, 992⟩ (same 172) (same 1811))) = true ∧
    nextIs (fun t => decide (t.PW = ⟨991, 2057, 1524, 991⟩))
      (exec .mixOk (mixing ⟨0, 2047, 0, 2047⟩ (same 172) (same 1811))) = true := by decide +kernel

theorem test_mixOk_unequal_ranges :
    nextIs (fun t => decide (t.PW = ⟨1952, 1611, 1221, 1042⟩))
      (exec .mixOk (mixing ⟨1200, 1500, 700, 1300⟩ ⟨300, 352, 1000, 250⟩ ⟨1700, 1650, 1601, 1797⟩)) = true := by
  decide +kernel

/-- R187's example, R189's example, R190's example. -/
theorem test_mix_steps :
    nextIs (fun t => decide (t.work.thr1 = 9 / 5 ∧ t.work.thr2 = 1 / 5))
      (exec .thrMix { at' .mix with work := { MixWork.zero with norm := ⟨1, 1, 0, 0⟩ } }) = true ∧
    nextIs (fun t => decide (t.work.o.thr1 = 1 ∧ t.work.o.thr2 = 1 / 5))
      (exec .thrRedist { at' .mix with work := { MixWork.zero with thr1 := 7 / 5, thr2 := 3 / 5 } }) = true ∧
    nextIs (fun t => decide (t.work.o.elv1 = 1 ∧ t.work.o.elv2 = 1 / 2))
      (exec .elvMix { at' .mix with work := { MixWork.zero with norm := ⟨0, 0, 1, 1⟩ } }) = true := by
  decide +kernel

/-- V-NORM-5. -/
theorem test_norm :
    nextIs (fun t => decide (t.work.norm.rudder = 820 / 1639))
      (exec .norm (mixing (same 992) (same 172) (same 1811))) = true := by decide +kernel

/-- R212 and R216, their examples. -/
theorem test_pulses :
    nextIs (fun t => decide (t.OUT = ⟨false, false, true, false⟩ ∧ t.dl = 7524 ∧ t.cp = .hold1))
      (exec .pulse1On { scheduled .wait1 with now := 6000, PW := ⟨1, 2, 1524, 1524⟩ }) = true ∧
    nextIs (fun t => decide (t.OUT = ⟨false, false, false, false⟩ ∧ t.parity = true ∧ t.cp = .top))
      (exec .pulse2Off (scheduled .hold2)) = true := by decide

/-- V-SYN-5, its tick 0: RX_STRAY, TOP_CHECK, PROBE_START. -/
theorem test_tick_stray_after_reset :
    nextIs (fun t => decide (t.cp = .probe ∧ t.dl = 100 ∧ t.now = 1 ∧ t.stray = false ∧ t.events = [.ev1]))
      (step { State.reset with script := [rxEdge Ports.quiet 0x55#8] }) = true := by decide

/-- R96, R256: the edge at which `rst` falls is RESET and then a TICK, "TOP_CHECK first if a byte is delivered in that very tick". -/
theorem test_release_is_reset_and_tick :
    nextIs (fun t => decide (t.cp = .probe ∧ t.dl = 100 ∧ t.now = 1 ∧ t.events = [.ev1]))
      (step { scheduled .hold1 with
        now := 77, ports := ⟨true, false, false, 0, false⟩, script := [rxEdge Ports.quiet 0x55#8] }) = true := by decide

/-- R95, U7: at a reserved code the state is frozen, `now` and `stray` with it. -/
theorem test_reserved_code_is_stuck :
    nextIs (fun t => decide (t.cp = .reserved7 ∧ t.now = 0 ∧ t.stray = false))
      (exec .tick { at' .reserved7 with ports := rxEdge Ports.quiet 0x55#8 }) = true := by decide

/-- R7: the values of the named constants. -/
theorem test_constants :
    [Config.frameLen, Config.fsByte, Config.fsBit, Config.nSlots, Config.nCh, Config.chMax, Config.calSpanMin,
      Config.nvSlots, Config.nvUsed, Config.nvScale] = [25, 23, 3, 16, 4, 2047, 600, 9, 8, 10] ∧
    Config.header = 0x0F ∧ Config.trailer = 0x00 ∧ Config.nvDefMin = 1 ∧ Config.nvDefMax = 200 ∧
    Config.calSentinel = 1000 ∧ Config.diffAuth = 4 / 5 ∧ Config.pwBase = 880 ∧ Config.pwScale = 13 / 20 ∧
    [Config.syncProbeUs, Config.slot1Us, Config.slot2Us] = [100, 1000, 4000] :=
  ⟨rfl, rfl, rfl, rfl, rfl, rfl, rfl, rfl, rfl, rfl⟩

/-- R256's example. -/
theorem test_reset_loads :
    nextIs (fun t => decide (t.MIN = same 170 ∧ t.MAX = same 1810 ∧ t.cp = .top ∧ t.now = 0))
      (exec (.reset false) { scheduled .hold1 with
        now := 77, NV := [(0, 17), (1, 181), (2, 17), (3, 181), (4, 17), (5, 181), (6, 17), (7, 181)] }) = true := by
  decide

/-- V-MIX-EV4 in the tick that completes a frame. -/
theorem test_tick_degenerate :
    nextIs (fun t => decide (t.cp = .frame ∧ t.events = [.ev4] ∧ t.OUT = linesLow ∧ t.parity = false))
      (exec .tick { last 0 false with MIN := ⟨170, 1810, 170, 170⟩, MAX := same 1810 }) = true := by decide

/-- V-CAL-1 and V-CAL-3, their closing cycles. -/
theorem test_session_threshold :
    nextIs (fun t => decide (t.cp = .ack ∧ t.nvRead 0 = 70 ∧ t.nvRead 7 = 130 ∧ t.MAX = same 1301))
      (exec .tick (session 700 1301 5 false)) = true ∧
    nextIs (fun t => decide (t.cp = .frame ∧ t.events = [.ev3] ∧ t.MIN = same 10 ∧ t.NV = []))
      (exec .tick (session 700 1300 5 false)) = true := by decide

/-! ### Witnesses: states and operands that meet the hypotheses of the obligations, clause by clause -/

theorem witness_StepPerformsDecodedOperation :
    ((edgeCodes State.reset.ports State.reset.nextPorts).map decode = [Instr.tick].map .ok ∧
      ∀ i ∈ [Instr.tick], i.wellFormed = true) ∧
    ((edgeCodes ⟨true, false, false, 0, false⟩ ⟨false, true, false, 0, false⟩).map decode =
      [Instr.reset true, .tick].map .ok ∧ ∀ i ∈ [Instr.reset true, .tick], i.wellFormed = true) ∧
    (State.nextPorts { State.reset with script := [⟨true, false, false, 0, false⟩] }).rst = true ∧
    (let s := { State.reset with ports := ⟨true, false, false, 0, false⟩, script := [Ports.quiet] };
      s.nextPorts.rst = false ∧ s.ports.rst = true) ∧
    (State.reset.nextPorts.rst = false ∧ State.reset.ports.rst = false) := by decide

theorem witness_TickBooksRunsThenAdvances : State.reset.events = [] ∧ isReserved State.reset.cp = false := ⟨rfl, rfl⟩

theorem witness_DispatchWordSelectsFirstRow :
    (∃ r ∈ operationMap.take 24, 0x1601#13 &&& r.mask = r.mtch) ∧
    (∀ r ∈ operationMap.take 24, 0x0280#13 &&& r.mask ≠ r.mtch) ∧
    (∃ p ∈ operationMap.take 24, ∃ q ∈ operationMap.take 24,
      p ≠ q ∧ 0x1200#13 &&& p.mask = p.mtch ∧ 0x1200#13 &&& q.mask = q.mtch) := by decide

theorem witness_GuardsSelectTheirRows_frame :
    (let s := { last 0 false with idx := 25#5 };
      s.cp = .frame ∧ s.idx = 25#5 ∧ MarkersRight s.F) ∧
    (let s := { at' .frame with idx := 25#5 };
      s.cp = .frame ∧ s.idx = 25#5 ∧ ¬ MarkersRight s.F) ∧
    ((last 0 false).cp = .frame ∧ (last 0 false).idx ≠ 25#5) := by
  refine ⟨⟨rfl, rfl, by decide, by decide⟩, ⟨rfl, rfl, fun h => absurd h.1 (by decide)⟩, rfl, by decide⟩

/-- Spans of 601 and 600, ranges of 1 and 0, both levels of the trigger, both session states; every other clause asks for a control
point only. -/
theorem witness_GuardsSelectTheirRows_cal_mix :
    ((ranged .cal 399 1000).cp = .cal ∧ (ranged .cal 399 1000).ports.calTrig = false ∧
      (ranged .cal 399 1000).calState = .idle ∧ (ranged .cal 399 1000).SpansGood) ∧
    ((ranged .cal 400 1000).calState = .idle ∧ ¬ (ranged .cal 400 1000).SpansGood) ∧
    (∃ s : State, s.cp = .cal ∧ s.ports.calTrig = true ∧ s.calState = .idle) ∧
    (∃ s : State, s.cp = .cal ∧ s.ports.calTrig = true ∧ s.calState = .calibrating) ∧
    (∃ s : State, s.cp = .cal ∧ s.ports.calTrig = false ∧ s.calState = .calibrating) ∧
    ((ranged .mix 999 1000).cp = .mix ∧ (ranged .mix 999 1000).RangesGood) ∧
    ((ranged .mix 1000 1000).cp = .mix ∧ ¬ (ranged .mix 1000 1000).RangesGood) := by
  refine ⟨⟨rfl, rfl, rfl, spans_of_check (by decide)⟩, ⟨rfl, fun h => absurd (h .rudder) (by decide)⟩,
    ⟨{ at' .cal with ports := ⟨false, false, false, 0, true⟩ }, rfl, rfl, rfl⟩,
    ⟨{ at' .cal with ports := ⟨false, false, false, 0, true⟩, calState := .calibrating }, rfl, rfl, rfl⟩,
    ⟨{ at' .cal with calState := .calibrating }, rfl, rfl, rfl⟩,
    ⟨rfl, ranges_of_check (by decide)⟩, rfl, fun h => absurd (h .rudder) (by decide)⟩

/-- R111's example: the chain after reset, PROBE_START and then STALL. -/
theorem witness_ChainPerformsAtMostTenOperations :
    ChainRuns State.reset [.probeStart] { State.reset with dl := 100#32, cp := .probe } := by
  have hs : State.reset.selectedOps = [.probeStart] := by decide
  have h := ChainRuns.go State.reset { State.reset with dl := 100#32, cp := .probe } _ []
    (by rw [hs]; decide) (by rw [hs]; rfl) (.stop _ .stall rfl (by decide))
  rw [hs] at h
  exact h

/-- Both rows; a byte that is delivered meanwhile. -/
theorem witness_ReservedCodeIsStuck :
    ((at' .reserved7).cp = .reserved7 ∧ (at' .reserved7).noReset 5) ∧
    (let s := { at' .reserved15 with script := [rxEdge Ports.quiet 0x55#8] };
      s.cp = .reserved15 ∧ s.noReset 1) :=
  ⟨⟨rfl, rfl, by simp [at', State.reset]⟩, rfl, rfl, by simp [rxEdge, Ports.quiet]⟩

theorem witness_DecodeOfEncodeIsIdentity :
    ((Instr.frame 119 (zeroFrame 0x0F#8 0x00#8)).wellFormed = true ∧
      isInvoked (.frame 119 (zeroFrame 0x0F#8 0x00#8)) = false) ∧
    ((Instr.nvByte 7 255).wellFormed = true ∧ isInvoked (.nvByte 7 255) = false) ∧ isInvoked .toPw = true := by
  decide

theorem witness_SlotBitIsPayloadBit : 15 < 16 ∧ 10 < 11 := by decide

/-- Two buffers that differ in slots 1 and above only agree on slot 0's bits. -/
theorem witness_PackingRoundTrips :
    15 < 16 ∧ (∀ i, i < 11 → (framePayload State.reset.F).testBit (11 * 0 + i) =
      (framePayload (State.reset.F.set 2 0xF8#8)).testBit (11 * 0 + i)) ∧ State.reset.F ≠ State.reset.F.set 2 0xF8#8 := by
  decide

theorem witness_StoredByteTruncatesBound : (2047#12).toNat ≤ 2047 := by decide

theorem witness_RxAcceptStoresByte : (last 0 false).idx.toNat ≤ 24 ∧ State.reset.idx.toNat ≤ 24 := by decide

/-- Quiet windows, and a byte in the first and in the last of the 100 ticks. -/
theorem witness_ProbeWindowIsHundredTicks :
    (let s := { at' .probe with now := 1#32, dl := 100#32 };
      s.cp = .probe ∧ s.synchronized = false ∧ s.stray = false ∧ s.dl = s.now + 99#32 ∧
      (s.ports.rst = false ∧ ∀ p ∈ s.script.take 100, p.rst = false) ∧ ∀ p ∈ s.script.take 100, p.rxValid = false) ∧
    (let q := List.replicate 99 Ports.quiet ++ [rxEdge Ports.quiet 0x55#8];
      (∀ p ∈ q.take 100, p.rst = false) ∧ ∃ p ∈ q.take 100, p.rxValid = true) ∧
    (∃ p ∈ [rxEdge Ports.quiet 0x55#8].take 100, p.rxValid = true) := by decide

theorem witness_ControlTransfersAreListed :
    (Instr.pulse2Off ∈ (scheduled .hold2).selectedOps ∧
      nextIs (fun t => decide (t.cp = .top)) (exec .pulse2Off (scheduled .hold2)) = true) ∧
    nextIs (fun _ => true) (exec (.reset true) State.reset) = true ∧
    (isSingle .rxStray = true ∧ Instr.rxStray ∉ operationMap.map Row.instr ∧
      nextIs (fun _ => true) (exec .rxStray State.reset) = true) := by decide

/-- A byte for the last free place of the buffer. -/
theorem witness_TickCompletesAtWait :
    isReserved (at' .reserved12).cp = true ∧ isReserved (last 0 false).cp = false ∧
    ¬ ((last 0 false).ports.rxValid = true ∧ (last 0 false).cp = .frame ∧ 25 ≤ (last 0 false).idx.toNat) := by decide

theorem witness_SchedulerWaitOnlyAdvances :
    (let s := { scheduled .wait1 with dl := 1#32 };
      isScheduling s.cp = true ∧ reached s.now s.dl = false ∧ s.events = []) ∧
    (let s := { scheduled .hold2 with dl := 0x80000000#32 };
      isScheduling s.cp = true ∧ reached s.now s.dl = false ∧ s.events = []) := by decide

theorem witness_InputsCannotAlterCycle :
    isScheduling (scheduled .hold1).cp = true ∧ (at' .ack).cp = .ack ∧
    nextIs (fun u => isScheduling u.cp)
      (exec .tick { scheduled .hold1 with dl := 1#32, ports := rxEdge Ports.quiet 0x55#8 }) = true ∧
    nextIs (fun u => decide (u.cp = .ack)) (exec .tick { at' .ack with dl := 1#32, stray := true }) = true ∧
    (true || (rxEdge Ports.quiet 0x55#8).rxValid) = (false || (rxEdge Ports.quiet 0x55#8).rxValid) := by decide

/-- The largest bounds whose quotient is a byte, and the rule's example. -/
theorem witness_StoreAndCommitWriteQuotients :
    let s := { at' .cal with MIN := ⟨172, 2559, 0, 0⟩, MAX := ⟨1811, 2559, 0, 0⟩ }
    Memory.wf s.NV ∧ (s.MIN.get .throttle).toNat < 2560 ∧ (s.MAX.get .throttle).toNat < 2560 := by decide

theorem witness_NvFormatWritesDefaults : Memory.wf [(0, 17#8), (8, 255#8)] := by decide

theorem witness_NvByteLoadsOneBound : (0#4).toNat < 8 ∧ (7#4).toNat < 8 := by decide

theorem witness_SmallSpanLeavesStore :
    ¬ (session 700 1300 5 false).SpansGood ∧
    nextIs (fun t => decide (t.events = [.ev3])) (exec .tick (session 700 1300 5 false)) = true :=
  ⟨fun h => absurd (h .rudder) (by decide), by decide⟩

theorem witness_SessionRangesOnlyWiden :
    Safe (session 1000 1000 5 true) ∧ (session 1000 1000 5 true).calState = .calibrating ∧
    nextIs (fun t => decide (t.calState = .calibrating)) (exec .tick (session 1000 1000 5 true)) = true :=
  ⟨safe_of_check (by decide), rfl, by decide +kernel⟩

theorem witness_CalibrationCycleIsSilent :
    (Safe (session 1000 1000 5 false) ∧ (session 1000 1000 5 false).cp = .frame ∧
      (session 1000 1000 5 false).calState = .calibrating ∧
      nextIs (fun _ => true) (exec .tick (session 1000 1000 5 false)) = true) ∧
    (Safe (last 0 true) ∧ (last 0 true).cp = .frame ∧ (last 0 true).ports.calTrig = true ∧
      nextIs (fun _ => true) (exec .tick (last 0 true)) = true) :=
  ⟨⟨safe_of_check (by decide), rfl, rfl, by decide +kernel⟩,
    safe_of_check (by decide), rfl, rfl, by decide +kernel⟩

/-- Holds of 1 tick and of the longest. -/
theorem witness_AcknowledgmentHeldExactly :
    (let s := { at' .ack with now := 1#32, dl := 1#32, par := ⟨SlotMap.identity, 1#31⟩ };
      s.cp = .ack ∧ 0 < s.par.ackHoldUs.toNat ∧ s.dl = s.now - 1#32 + s.par.ackHoldUs.setWidth 32 ∧
      s.ports.rst = false ∧ ∀ p ∈ s.script.take s.par.ackHoldUs.toNat, p.rst = false) ∧
    (let s := { at' .ack with now := 1#32, dl := 0x7FFFFFFF#32, par := ⟨SlotMap.identity, 0x7FFFFFFF#31⟩ };
      s.cp = .ack ∧ 0 < s.par.ackHoldUs.toNat ∧ s.dl = s.now - 1#32 + s.par.ackHoldUs.setWidth 32 ∧
      s.ports.rst = false ∧ ∀ p ∈ s.script.take s.par.ackHoldUs.toNat, p.rst = false) := by
  refine ⟨⟨rfl, by decide, by decide, rfl, by simp [at', State.reset]⟩, rfl, by decide, by decide, rfl,
    by simp [at', State.reset]⟩

/-- For NormDividesClampedValue, MixOkEqualsIntegerForm and PulseWidthsStayInRange: ranges of 1, and of 0 to 2550. -/
theorem witness_RangesGood :
    (ranged .mix 999 1000).RangesGood ∧ (ranged .mix 0 2550).RangesGood ∧
    ∀ c, ((ranged .mix 0 2550).MAX.get c).toNat ≤ 2550 :=
  ⟨ranges_of_check (by decide), ranges_of_check (by decide), fun c => by cases c <;> decide⟩

theorem witness_MixStepsFollowFormulas :
    nextIs (fun _ => true) (execAll [.norm, .thrMix, .thrRedist, .elvMix, .toPw] (ranged .mix 172 1811)) = true ∧
    (0 : Int) ≤ 880 + ⌊(((172 : Int) + ⌊(1 : Rat) * ((1811 - 172 : Int) : Rat)⌋ : Int) : Rat) * 13 / 20⌋ ∧
    880 + ⌊(((172 : Int) + ⌊(1 : Rat) * ((1811 - 172 : Int) : Rat)⌋ : Int) : Rat) * 13 / 20⌋ ≤ 4095 := by
  decide +kernel

/-- Full throttle with rudder at both ends (each command above 1 in turn, the other below its excess), at three quarters (the reduced one
stays above 0), and at the centre (none above 1). -/
theorem witness_RedistributionKeepsDifference :
    1 < throttle1 1 1 ∧ throttle2 1 1 - excess (throttle1 1 1) < 0 ∧ 1 < throttle2 0 1 ∧
    1 < throttle1 (3 / 4) 1 ∧ 0 ≤ throttle2 (3 / 4) 1 - excess (throttle1 (3 / 4) 1) ∧
    1 < throttle2 (1 / 4) 1 ∧ 0 ≤ throttle1 (1 / 4) 1 - excess (throttle2 (1 / 4) 1) ∧
    throttle1 (1 / 2) 1 ≤ 1 ∧ throttle2 (1 / 2) 1 ≤ 1 := by decide +kernel

theorem witness_NeutralAndFullThrottle :
    (let s := mixing (same 990) (same 170) (same 1810);
      s.RangesGood ∧ ∀ c, 2 * (s.CH.get c).toNat = (s.MIN.get c).toNat + (s.MAX.get c).toNat) ∧
    (let s := mixing ⟨990, 1810, 990, 990⟩ (same 170) (same 1810);
      s.RangesGood ∧ s.MAX.throttle.toNat ≤ s.CH.throttle.toNat ∧
      2 * s.CH.rudder.toNat = s.MIN.rudder.toNat + s.MAX.rudder.toNat) :=
  ⟨⟨ranges_of_check (by decide), fun c => by cases c <;> decide⟩, ranges_of_check (by decide), by decide, by decide⟩

/-- Both slots; the deadline reached in this very tick, and a late one. -/
theorem witness_PulseIsExactlyItsWidth :
    (Safe (scheduled .wait1) ∧ reached (scheduled .wait1).now (scheduled .wait1).dl = true ∧
      (scheduled .wait1).cp = .wait1 ∧ (scheduled .wait1).parity = false ∧ (scheduled .wait1).noReset 2538) ∧
    (let s := { scheduled .wait2 with now := 9#32, parity := true };
      Safe s ∧ reached s.now s.dl = true ∧ s.cp = .wait2 ∧ s.parity = true ∧ s.noReset 881) :=
  ⟨⟨safe_of_check (by decide), by decide, rfl, rfl, rfl, by simp [scheduled, at', State.reset]⟩,
    safe_of_check (by decide), by decide, rfl, rfl, rfl, by simp [scheduled, at', State.reset]⟩

/-- The state before the edge that delivers the last byte. -/
def beforeLast : State :=
  { last 0x00#8 false with ports := Ports.quiet, script := [⟨false, false, true, 0x00#8, false⟩] }

theorem witness_MixCycleTimeline :
    Safe beforeLast ∧ beforeLast.atEdge.AtLastByte ∧ MarkersRight beforeLast.atEdge.group ∧
    beforeLast.atEdge.ports.calTrig = false ∧ beforeLast.ports.rst = false ∧ beforeLast.atEdge.ports.rst = false ∧
    beforeLast.calState = .idle ∧ beforeLast.RangesGood ∧
    nextIs (fun u => decide (u.ports.rst = false ∧ u.script = [])) (steps 1 beforeLast) = true :=
  ⟨safe_of_check (by decide), ⟨rfl, rfl, rfl⟩, ⟨by decide, by decide⟩, rfl, rfl, rfl, rfl,
    ranges_of_check (by decide), by decide⟩

/-- For GoodFrameStartsMixCycle; with it the good group of the other statements about the last byte. -/
theorem witness_GoodFrameStartsMixCycle :
    (last 0 false).AtLastByte ∧ MarkersRight (last 0 false).group ∧ (last 0 false).ports.calTrig = false ∧
    (last 0 false).calState = .idle ∧ (last 0 false).RangesGood :=
  ⟨last_at 0 false, ⟨by decide, by decide⟩, rfl, rfl, ranges_of_check (by decide)⟩

theorem witness_DegenerateFrameEndsCycle :
    let s := { last 0 false with MAX := ⟨2000, 10, 2000, 2000⟩ }
    Safe s ∧ s.AtLastByte ∧ MarkersRight s.group ∧ s.ports.calTrig = false ∧ s.calState = .idle ∧ ¬ s.RangesGood :=
  ⟨safe_of_check (by decide), ⟨rfl, rfl, rfl⟩, ⟨by decide, by decide⟩, rfl, rfl,
    fun h => absurd (h .throttle) (by decide)⟩

/-- Opening a session, and a sample of an open one. -/
theorem witness_TriggeredFrameIsSample :
    (Safe (last 0 true) ∧ (last 0 true).AtLastByte ∧ MarkersRight (last 0 true).group ∧
      (last 0 true).ports.calTrig = true ∧ (last 0 true).calState = .idle) ∧
    (Safe (session 700 1300 0 true) ∧ (session 700 1300 0 true).AtLastByte ∧
      MarkersRight (session 700 1300 0 true).group ∧ (session 700 1300 0 true).calState = .calibrating) :=
  ⟨⟨safe_of_check (by decide), last_at 0 true, ⟨by decide, by decide⟩, rfl, rfl⟩,
    safe_of_check (by decide), ⟨rfl, rfl, rfl⟩, ⟨by decide, by decide⟩, rfl⟩

/-- Spans of 601, with a hold of 0 and of 5. -/
theorem witness_ClosingFrameCommits :
    (Safe (session 700 1301 0 false) ∧ (session 700 1301 0 false).AtLastByte ∧
      MarkersRight (session 700 1301 0 false).group ∧ (session 700 1301 0 false).ports.calTrig = false ∧
      (session 700 1301 0 false).calState = .calibrating ∧ (session 700 1301 0 false).SpansGood ∧
      (session 700 1301 0 false).par.ackHoldUs = 0#31) ∧
    (Safe (session 700 1301 5 false) ∧ (session 700 1301 5 false).par.ackHoldUs ≠ 0#31 ∧
      (session 700 1301 5 false).SpansGood) :=
  ⟨⟨safe_of_check (by decide), ⟨rfl, rfl, rfl⟩, ⟨by decide, by decide⟩, rfl, rfl, spans_of_check (by decide), rfl⟩,
    safe_of_check (by decide), by decide, spans_of_check (by decide)⟩

/-- Spans of 600. -/
theorem witness_ClosingFrameRejects :
    Safe (session 700 1300 5 false) ∧ (session 700 1300 5 false).AtLastByte ∧
    MarkersRight (session 700 1300 5 false).group ∧ (session 700 1300 5 false).ports.calTrig = false ∧
    (session 700 1300 5 false).calState = .calibrating ∧ ¬ (session 700 1300 5 false).SpansGood :=
  ⟨safe_of_check (by decide), ⟨rfl, rfl, rfl⟩, ⟨by decide, by decide⟩, rfl, rfl,
    fun h => absurd (h .rudder) (by decide)⟩

/-- V-HDR: a wrong trailer, and a wrong header. -/
theorem witness_BadGroupDesynchronizes :
    ((last 0x04#8 false).AtLastByte ∧ ¬ MarkersRight (last 0x04#8 false).group) ∧
    (let s := { last 0 false with F := State.reset.F.set 0 0xF0#8 };
      s.AtLastByte ∧ ¬ MarkersRight s.group) :=
  ⟨⟨last_at _ _, fun h => absurd h.2 (by decide)⟩, ⟨rfl, rfl, rfl⟩, fun h => absurd h.1 (by decide)⟩

/-- For FrameDeliversItsBytes and WellFormedFrameIsMixed. -/
theorem witness_WellFormedFrameIsMixed :
    let s := { at' .frame with synchronized := true }
    (Instr.frame 119 (zeroFrame 0x0F#8 0x00#8)).wellFormed = true ∧ s.cp = .frame ∧ s.idx = 0#5 ∧ s.ports.rst = false ∧
    s.ports.calTrig = false ∧ s.calState = .idle ∧ s.RangesGood :=
  ⟨by decide, rfl, rfl, rfl, rfl, rfl, ranges_of_check (by decide)⟩

/-- For ResetLoadsStoreAndClears and EveryOperationKeepsStoreForm: a store with every slot listed. -/
theorem witness_store :
    Memory.wf [(0, 17#8), (1, 181#8), (2, 0#8), (3, 255#8), (4, 0#8), (5, 0#8), (6, 2#8), (7, 201#8), (8, 1#8)] ∧
    nextIs (fun _ => true) (exec .nvStore State.reset) = true := by decide

theorem witness_OutputsFollowRegisters :
    State.reset.ports.rst = false ∧
    State.ports { State.reset with ports := ⟨true, false, false, 0, false⟩ } = ⟨true, false, false, 0, false⟩ :=
  ⟨rfl, rfl⟩

/-- Safe states: reset, a pulse in progress (between two ticks), an open session. -/
theorem witness_EveryStepKeepsSafe :
    Safe (scheduled .hold1) ∧ (scheduled .hold1).ports.rst = false ∧ (scheduled .hold1).nextPorts.rst = false ∧
    Safe (session 1000 1000 5 true) :=
  ⟨safe_of_check (by decide), rfl, rfl, safe_of_check (by decide +kernel)⟩

/-- Two states that differ in `T`, `CH` and the rest of the buffer, in the middle of a collection. -/
theorem witness_UnwrittenRegistersAreNotRead :
    let s := last 0 false
    let t := { s with F := s.F.set 24 0xFF#8, T := 7#32, dl := 9#32, CH := same 5, PW := ⟨0, 1, 2, 3⟩ }
    Safe s ∧ UnreadEq s t ∧ s ≠ t := by
  refine ⟨safe_of_check (by decide), ⟨rfl, fun _ => ?_, by decide, by decide, by decide⟩, fun h => ?_⟩
  · intro i h hi
    have : i < 24 := hi
    simp only [Vector.getElem_set]
    rw [if_neg (by omega)]
  · exact absurd (congrArg State.T h) (by decide)

theorem witness_ClockShiftIsInvisible :
    (∀ f, Instr.tick ≠ .reset f) ∧ (∀ g f, Instr.tick ≠ .frame g f) :=
  by
  constructor
  · intro f h; cases h
  · intro g f h; cases h

/-- Two states that differ in every ignored bit of `F[6]`, `F[7]` and `F[23]`. -/
theorem witness_IgnoredFrameBitsHaveNoEffect :
    let s := last 0 false
    let t := { s with F := ((s.F.set 6 0xF0#8).set 7 0xFF#8).set 23 0xF7#8 }
    IgnoredEq s t ∧ s ≠ t := by
  refine ⟨⟨rfl, ?_, by decide, by decide⟩, fun h => absurd (congrArg (fun u => u.F[7]) h) (by decide)⟩
  intro i h hi
  simp only [Vector.getElem_set]
  rw [if_neg (by omega), if_neg (by omega), if_neg (by omega)]

theorem witness_OnlyListedOperationsWrite :
    isSingle .calReject = true ∧ nextIs (fun t => decide (t.events = [.ev3])) (exec .calReject State.reset) = true := by
  decide

theorem witness_StopsOutsideTheRules :
    25 ≤ (State.idx { State.reset with idx := 25#5 }).toNat ∧ 8 ≤ (8#4).toNat ∧ ¬ (ranged .mix 1000 1000).RangesGood :=
  ⟨by decide, by decide, fun h => absurd (h .rudder) (by decide)⟩

theorem witness_PresentedWordIsSelected : Memory.wf State.reset.NV := by decide

end Sys2Proof.Tests
end

/-! The proofs about the state: what every step keeps (R39), what it does not read (R40, R24), what an operation writes (R41), and
reset. -/

namespace Sys2Proof.Machine

/-! ### What a clock edge performs -/

@[simp] theorem andThen_next_right (r : Result) : andThen r .next = r := by cases r <;> rfl

theorem step_held {s : State} (h : s.nextPorts.rst = true) : step s = .next s.atEdge := by
  rw [step, fetch_held h, execAll]

theorem step_tick {s : State} (h : s.nextPorts.rst = false) (hs : s.ports.rst = false) :
    step s = execTick s.atEdge := by
  rw [step, fetch_tick h hs]
  exact andThen_next_right _

theorem step_release {s : State} (h : s.nextPorts.rst = false) (hs : s.ports.rst = true) :
    step s = andThen (execReset s.nextPorts.fmtReq s.atEdge) execTick := by
  rw [step, fetch_release h hs]
  exact congrArg (andThen _) (funext fun u => andThen_next_right _)

/-! ### Outcomes related by a relation -/

theorem Related.andThen {R : State → State → Prop} {a b : Result} {f g : State → Result} (h : Related R a b)
    (hfg : ∀ s t, R s t → Related R (f s) (g t)) : Related R (andThen a f) (andThen b g) := by
  cases a <;> cases b <;> simp only [Related] at h
  case next.next s t => exact hfg s t h
  case fault.fault e e' => exact h
  case refused.refused e e' => exact h

theorem related_of_eq {R : State → State → Prop} {a b a' b' : Result} (ha : a = a') (hb : b = b')
    (h : Related R a' b') : Related R a b := by
  rwa [ha, hb]

theorem Related.mono {R R' : State → State → Prop} {a b : Result} (h : Related R a b) (hR : ∀ s t, R s t → R' s t) :
    Related R' a b := by
  cases a <;> cases b <;> simp only [Related] at h ⊢
  case next.next s t => exact hR s t h
  case fault.fault e e' => exact h
  case refused.refused e e' => exact h

/-! ### Where an operation stops, and what it answers elsewhere (R22, R61, U3) -/

theorem execRxAccept_of_lt {s : State} (b : Byte) (h : s.idx.toNat < 25) :
    execRxAccept b s = .next { s with F := s.F.set s.idx.toNat b h, idx := s.idx + 1#5 } := dif_pos h

theorem execRxAccept_of_le {s : State} (b : Byte) (h : 25 ≤ s.idx.toNat) : execRxAccept b s = .fault .frameIndex :=
  dif_neg (Nat.not_lt.mpr h)

theorem execNvByte_of_lt {a : BitVec 4} (v : Byte) (s : State) (h : a.toNat < 8) :
    execNvByte a v s = .next (s.setBound a.toNat (rawOfStored v)) := if_pos h

theorem execNvByte_of_le {a : BitVec 4} (v : Byte) (s : State) (h : 8 ≤ a.toNat) :
    execNvByte a v s = .fault .storeAddress := if_neg (Nat.not_lt.mpr h)

/-- NORM with good ranges, in one update. -/
theorem execNorm_of_range {s : State} (h : s.gRange = true) :
    execNorm s = .next { s with work := { s.work with
      norm := PerChannel.of (fun c => normalize (s.MIN.get c) (s.MAX.get c) (s.CH.get c)) } } := if_pos h

theorem execNorm_of_degenerate {s : State} (h : s.gRange = false) : execNorm s = .fault .degenerateRange := by
  simp [execNorm, h]

theorem execMixOk_of_degenerate {s : State} (h : s.gRange = false) : execMixOk s = .fault .degenerateRange := by
  rw [execMixOk, execNorm_of_degenerate h, andThen_fault]

theorem execRxAccept_eq_next {b : Byte} {s t : State} (h : execRxAccept b s = .next t) :
    ∃ hi : s.idx.toNat < 25, t = { s with F := s.F.set s.idx.toNat b hi, idx := s.idx + 1#5 } := by
  rcases Nat.lt_or_ge s.idx.toNat 25 with hi | hi
  · rw [execRxAccept_of_lt b hi] at h
    exact ⟨hi, (Host.Outcome.next.inj h).symm⟩
  · rw [execRxAccept_of_le b hi] at h
    cases h

theorem execNvByte_eq_next {a : BitVec 4} {v : Byte} {s t : State} (h : execNvByte a v s = .next t) :
    t = s.setBound a.toNat (rawOfStored v) := by
  rcases Nat.lt_or_ge a.toNat 8 with ha | ha
  · rw [execNvByte_of_lt v s ha] at h
    exact (Host.Outcome.next.inj h).symm
  · rw [execNvByte_of_le v s ha] at h
    cases h

theorem execNorm_eq_next {s t : State} (h : execNorm s = .next t) : ∃ w, t = { s with work := w } := by
  rcases Bool.eq_false_or_eq_true s.gRange with hg | hg
  · rw [execNorm_of_range hg] at h
    exact ⟨_, (Host.Outcome.next.inj h).symm⟩
  · rw [execNorm_of_degenerate hg] at h
    cases h

theorem execMixOk_eq_next {s t : State} (h : execMixOk s = .next t) :
    t = { s with PW := s.mixedWidths, dl := s.T + 1000#32, cp := .wait1 } := by
  rcases Bool.eq_false_or_eq_true s.gRange with hg | hg
  · rw [execMixOk_of_range hg] at h
    exact (Host.Outcome.next.inj h).symm
  · rw [execMixOk_of_degenerate hg] at h
    cases h

/-! ### One selection of the chain

Where the law of Laws/Chain speaks of more than one selection, or of an operation that can stop. -/

theorem chain_probeStart_one {s : State} (n : Nat) (hc : s.cp = .top) (hs : s.stray = false)
    (hy : s.synchronized = false) :
    chain (n + 1) s = chain n { s with dl := s.now + Config.syncProbeUs, cp := .probe } :=
  chain_one n (i := .probeStart) (by simp [selectedOps_eq, listing, hc, hs, hy]) rfl

theorem chain_frameStart_one {s : State} (n : Nat) (hc : s.cp = .top) (hs : s.stray = false)
    (hy : s.synchronized = true) : chain (n + 1) s = chain n { s with idx := 0#5, cp := .frame } :=
  chain_one n (i := .frameStart) (by simp [selectedOps_eq, listing, hc, hs, hy]) rfl

theorem chain_mixOk_one {s : State} (n : Nat) (hc : s.cp = .mix) (hg : s.gRange = true) :
    chain (n + 1) s = chain n { s with PW := s.mixedWidths, dl := s.T + 1000#32, cp := .wait1 } := by
  rw [chain_mixOk n hc hg, execMixOk_of_range hg, andThen_next]

/-! ### Stored bounds -/

theorem nvLoad_bounds (s : State) (c : Channel) :
    (s.nvLoad.MIN.get c).toNat ≤ 2550 ∧ (s.nvLoad.MAX.get c).toNat ≤ 2550 := by
  simp only [State.nvLoad, PerChannel.get_of, rawOfStored_toNat]
  have h0 := (s.nvRead (2 * c.index)).isLt
  have h1 := (s.nvRead (2 * c.index + 1)).isLt
  omega

theorem channelValue_widened (v : ChannelValue) : (v.setWidth 12).toNat = v.toNat := by
  simp only [BitVec.toNat_setWidth]
  omega

theorem lowerBound_toNat (b : Bound) (v : ChannelValue) : (lowerBound b v).toNat = min v.toNat b.toNat := by
  have hv := channelValue_widened v
  rw [lowerBound, hv]
  split <;> omega

theorem upperBound_toNat (b : Bound) (v : ChannelValue) : (upperBound b v).toNat = max v.toNat b.toNat := by
  have hv := channelValue_widened v
  rw [upperBound, hv]
  split <;> omega

/-! ### Pulse widths (R192 to R195) -/

theorem clamp01_nonneg (q : Rat) : 0 ≤ clamp01 q := le_max_left _ _

theorem clamp01_le_one (q : Rat) : clamp01 q ≤ 1 := max_le (by norm_num) (min_le_left _ _)

/-- R193: an output between 0 and 1 is scaled into its range. -/
theorem scaledValue_mem {lo hi : Bound} (h : lo.toNat < hi.toNat) {o : Rat} (h0 : 0 ≤ o) (h1 : o ≤ 1) :
    (lo.toNat : Int) ≤ scaledValue lo hi o ∧ scaledValue lo hi o ≤ hi.toNat := by
  have hd : (0 : Rat) ≤ (((hi.toNat : Int) - (lo.toNat : Int) : Int) : Rat) := by
    exact_mod_cast (by omega : (0 : Int) ≤ (hi.toNat : Int) - (lo.toNat : Int))
  have hlow := Int.floor_nonneg.mpr (mul_nonneg h0 hd)
  have hhigh := Int.floor_le_floor (mul_le_of_le_one_left hd h1)
  rw [Int.floor_intCast] at hhigh
  unfold scaledValue
  omega

/-- R194 is monotone, so a scaled value of 0 to 2550 has a width of 880 to 2537. -/
theorem pulseWidthInt_mem {x : Int} (h0 : 0 ≤ x) (h1 : x ≤ 2550) : 880 ≤ pulseWidthInt x ∧ pulseWidthInt x ≤ 2537 := by
  have hx0 : (0 : Rat) ≤ x := by exact_mod_cast h0
  have hx1 : (x : Rat) ≤ 2550 := by exact_mod_cast h1
  have hlow : 0 ≤ ⌊(x : Rat) * Config.pwScale⌋ := Int.floor_nonneg.mpr (by unfold Config.pwScale; positivity)
  have hhigh : ⌊(x : Rat) * Config.pwScale⌋ < 1658 := Int.floor_lt.mpr (by unfold Config.pwScale; push_cast; linarith)
  unfold pulseWidthInt Config.pwBase
  omega

theorem narrowWidth_toNat {x : Int} (h0 : 0 ≤ x) (h1 : x < 4096) : ((narrowWidth x).toNat : Int) = x := by
  rw [narrowWidth, if_pos ⟨h0, h1⟩, BitVec.toNat_ofInt]
  omega

/-- R195: the width of an output between 0 and 1 through a good range with bounds up to 2550. -/
theorem toPulseWidth_mem {lo hi : Bound} (h : lo.toNat < hi.toNat) (hhi : hi.toNat ≤ 2550) {o : Rat} (h0 : 0 ≤ o)
    (h1 : o ≤ 1) : 880 ≤ (toPulseWidth lo hi o).toNat ∧ (toPulseWidth lo hi o).toNat ≤ 2537 := by
  obtain ⟨hs0, hs1⟩ := scaledValue_mem h h0 h1
  obtain ⟨hw0, hw1⟩ := pulseWidthInt_mem (x := scaledValue lo hi o) (by omega) (by omega)
  have hw := narrowWidth_toNat (x := pulseWidthInt (scaledValue lo hi o)) (by omega) (by omega)
  unfold toPulseWidth
  omega

theorem mixedWidths_mem {s : State} (hr : s.RangesGood) (hb : ∀ c, (s.MAX.get c).toNat ≤ 2550) (k : Output) :
    880 ≤ (s.mixedWidths.get k).toNat ∧ (s.mixedWidths.get k).toNat ≤ 2537 := by
  cases k
  case thr1 => exact toPulseWidth_mem (hr .throttle) (hb .throttle) (clamp01_nonneg _) (clamp01_le_one _)
  case thr2 => exact toPulseWidth_mem (hr .throttle) (hb .throttle) (clamp01_nonneg _) (clamp01_le_one _)
  case elv1 => exact toPulseWidth_mem (hr .elevator) (hb .elevator) (clamp01_nonneg _) (clamp01_le_one _)
  case elv2 => exact toPulseWidth_mem (hr .elevator) (hb .elevator) (clamp01_nonneg _) (clamp01_le_one _)

theorem ticks_toNat (w : Width) : (ticks w).toNat = w.toNat := by
  simp only [ticks, BitVec.toNat_setWidth]
  omega

/-- A line that has just risen for a width above 0 is not due to fall. -/
theorem not_reached_width {now : Time} {w : Width} (h : 0 < w.toNat) : reached now (now + ticks w) = false := by
  have := w.isLt
  apply reached_ahead <;> rw [ticks_toNat] <;> omega

/-! ### What R39 asks between two pulses, and from MIX_OK to the end of the second pulse -/

/-- R39 (e): the ranges of an open session hold 1000, within the channel values. -/
def State.SessionRanges (s : State) : Prop :=
  ∀ c, (s.MIN.get c).toNat ≤ 1000 ∧ 1000 ≤ (s.MAX.get c).toNat ∧ (s.MAX.get c).toNat ≤ Config.chMax

/-- The part of R39 that holds at every control point without a pulse, CYCLE, CAL and MIX within a tick among them. -/
structure Resting (s : State) : Prop where
  lines : s.OUT = linesLow
  session : s.calState = .calibrating → s.SessionRanges
  bounds : ∀ c, (s.MIN.get c).toNat ≤ 2550 ∧ (s.MAX.get c).toNat ≤ 2550
  store : Memory.wf s.NV

/-- R39 (d) and (f): the scheduler's part. -/
structure Pulsing (s : State) : Prop where
  lines : s.OUT = expectedLines s.cp s.parity
  idle : s.calState = .idle
  synced : s.synchronized = true
  ranges : s.RangesGood
  widths : ∀ k, 880 ≤ (s.PW.get k).toNat ∧ (s.PW.get k).toNat ≤ 2537
  bounds : ∀ c, (s.MIN.get c).toNat ≤ 2550 ∧ (s.MAX.get c).toNat ≤ 2550
  store : Memory.wf s.NV

theorem Resting.safe_probe {s : State} (h : Resting s) (hc : s.cp = .probe) (hy : s.synchronized = false) : Safe s where
  atWait := by simp [hc, isWaiting]
  frameOpen := by simp [hc]
  probing _ := hy
  lines := by simp [hc, expectedLines, h.lines]
  session hs := ⟨h.session hs, .inl hc⟩
  scheduling := by simp [hc, isScheduling]
  acknowledging := by simp [hc]
  bounds := h.bounds
  store := h.store

theorem Resting.safe_frame {s : State} (h : Resting s) (hc : s.cp = .frame) (hy : s.synchronized = true)
    (hs : s.stray = false) (hi : s.idx.toNat ≤ 24) : Safe s where
  atWait := by simp [hc, isWaiting]
  frameOpen _ := ⟨hy, hs, hi⟩
  probing := by simp [hc]
  lines := by simp [hc, expectedLines, h.lines]
  session hs := ⟨h.session hs, .inr hc⟩
  scheduling := by simp [hc, isScheduling]
  acknowledging := by simp [hc]
  bounds := h.bounds
  store := h.store

theorem Resting.safe_idle {s : State} (h : Resting s) (hc : s.cp = .ack ∨ s.cp = .top) (hi : s.calState = .idle) :
    Safe s := by
  constructor
  case bounds => exact h.bounds
  case store => exact h.store
  case acknowledging => exact fun _ => hi
  all_goals rcases hc with hc | hc <;> simp [hc, hi, isWaiting, isScheduling, expectedLines, h.lines]

theorem Pulsing.safe {s : State} (h : Pulsing s) (hc : isScheduling s.cp = true) : Safe s := by
  constructor
  case lines => exact h.lines
  case scheduling => exact fun _ => ⟨h.idle, h.synced, h.ranges, h.widths⟩
  case session => simp [h.idle]
  case bounds => exact h.bounds
  case store => exact h.store
  all_goals revert hc; cases s.cp <;> simp [isScheduling, isWaiting]

/-! ### The chain from a safe state stops in a safe state -/

/-- The chain with `n` selections stops at a waiting control point, in a safe state. -/
def Settles (n : Nat) (s : State) : Prop := ∃ t, chain n s = .next t ∧ Safe t ∧ isWaiting t.cp = true

theorem settles_of_chain_eq {n m : Nat} {s u : State} (h : chain n s = chain m u) (hu : Settles m u) : Settles n s := by
  rwa [Settles, h]

/-- A chain that stops at once, at a control point that reads the deadline. -/
theorem settles_stall {s : State} (n : Nat) (h : Safe s) (hd : readsDeadline s.cp = true)
    (hr : reached s.now s.dl = false) : Settles (n + 1) s :=
  ⟨s, chain_stall n hd hr, h, by revert hd; cases s.cp <;> simp [readsDeadline, isWaiting]⟩

theorem settles_top {s : State} (n : Nat) (h : Resting s) (hc : s.cp = .top) : Settles (n + 3) s := by
  refine ⟨_, chain_top n hc, ?_⟩
  unfold State.settleTop
  split
  · exact ⟨Resting.safe_probe { h with } rfl rfl, rfl⟩
  · rename_i hs
    split
    · rename_i hy
      exact ⟨Resting.safe_frame { h with } rfl hy (by simpa using hs) (by simp), rfl⟩
    · rename_i hy
      exact ⟨Resting.safe_probe { h with } rfl (by simpa using hy), rfl⟩

theorem settles_probe {s : State} (n : Nat) (h : Resting s) (hc : s.cp = .probe) (hy : s.synchronized = false) :
    Settles (n + 4) s := by
  cases hr : reached s.now s.dl
  · exact settles_stall (n + 3) (h.safe_probe hc hy) (by simp [hc, readsDeadline]) hr
  · cases hs : s.stray
    · exact settles_of_chain_eq (chain_probeOk (n + 3) hc hr hs) (settles_top n { h with } rfl)
    · exact settles_of_chain_eq (chain_probeFail (n + 3) hc hr hs) (settles_top n { h with } rfl)

theorem settles_ack {s : State} (n : Nat) (h : Resting s) (hc : s.cp = .ack) (hi : s.calState = .idle) :
    Settles (n + 4) s := by
  cases hr : reached s.now s.dl
  · exact settles_stall (n + 3) (h.safe_idle (.inl hc) hi) (by simp [hc, readsDeadline]) hr
  · exact settles_of_chain_eq (chain_ackEnd (n + 3) hc hr) (settles_top n { h with } rfl)

/-! #### The scheduler -/

theorem linesLow_set_set (k : Output) : (linesLow.set k true).set k false = linesLow := by cases k <;> rfl

/-- A line that rises is held for at least 880 µs, so the chain stops. -/
theorem settles_assertLine {s : State} (n : Nat) (h : Pulsing s) (hl : s.OUT = linesLow) {k : Output} {c : ControlPoint}
    (hc : c = .hold1 ∧ k = slot1Line s.parity ∨ c = .hold2 ∧ k = slot2Line s.parity) :
    Settles (n + 1) ((s.assertLine k).goto c) := by
  have hp : Pulsing ((s.assertLine k).goto c) :=
    { h with lines := by rcases hc with ⟨rfl, rfl⟩ | ⟨rfl, rfl⟩ <;> simp [expectedLines, hl] }
  have hw := (h.widths k).1
  have hr : reached ((s.assertLine k).goto c).now ((s.assertLine k).goto c).dl = false :=
    not_reached_width (by omega)
  rcases hc with ⟨rfl, -⟩ | ⟨rfl, -⟩
  · exact settles_stall n (hp.safe rfl) rfl hr
  · exact settles_stall n (hp.safe rfl) rfl hr

theorem settles_hold2 {s : State} (n : Nat) (h : Pulsing s) (hc : s.cp = .hold2) : Settles (n + 4) s := by
  cases hr : reached s.now s.dl
  · exact settles_stall (n + 3) (h.safe (by simp [hc, isScheduling])) (by simp [hc, readsDeadline]) hr
  · refine settles_of_chain_eq (chain_pulse2Off (n + 3) hc hr) (settles_top n ?_ rfl)
    exact { h with
      lines := by simp [h.lines, hc, expectedLines, linesLow_set_set]
      session := by simp [h.idle] }

theorem settles_wait2 {s : State} (n : Nat) (h : Pulsing s) (hc : s.cp = .wait2) : Settles (n + 2) s := by
  cases hr : reached s.now s.dl
  · exact settles_stall (n + 1) (h.safe (by simp [hc, isScheduling])) (by simp [hc, readsDeadline]) hr
  · exact settles_of_chain_eq (chain_pulse2On (n + 1) hc hr)
      (settles_assertLine n h (by simp [h.lines, hc, expectedLines]) (.inr ⟨rfl, rfl⟩))

theorem settles_hold1 {s : State} (n : Nat) (h : Pulsing s) (hc : s.cp = .hold1) : Settles (n + 3) s := by
  cases hr : reached s.now s.dl
  · exact settles_stall (n + 2) (h.safe (by simp [hc, isScheduling])) (by simp [hc, readsDeadline]) hr
  · refine settles_of_chain_eq (chain_pulse1Off (n + 2) hc hr) (settles_wait2 n ?_ rfl)
    exact { h with lines := by simp [h.lines, hc, expectedLines, linesLow_set_set] }

theorem settles_wait1 {s : State} (n : Nat) (h : Pulsing s) (hc : s.cp = .wait1) : Settles (n + 2) s := by
  cases hr : reached s.now s.dl
  · exact settles_stall (n + 1) (h.safe (by simp [hc, isScheduling])) (by simp [hc, readsDeadline]) hr
  · exact settles_of_chain_eq (chain_pulse1On (n + 1) hc hr)
      (settles_assertLine n h (by simp [h.lines, hc, expectedLines]) (.inl ⟨rfl, rfl⟩))

/-! #### MIX and CAL -/

theorem settles_mix {s : State} (n : Nat) (h : Resting s) (hc : s.cp = .mix) (hy : s.synchronized = true)
    (hi : s.calState = .idle) : Settles (n + 4) s := by
  cases hg : s.gRange
  · exact settles_of_chain_eq (chain_mixDegenerate (n + 3) hc hg) (settles_top n { h with } rfl)
  · have hr : s.RangesGood := (gRange_iff s).mp hg
    have hp : Pulsing { s with PW := s.mixedWidths, dl := s.T + 1000#32, cp := .wait1 } :=
      { h with
        idle := hi
        synced := hy
        ranges := hr
        widths := mixedWidths_mem hr fun c => (h.bounds c).2 }
    exact settles_of_chain_eq (chain_mixOk_one (n + 3) hc hg) (settles_wait1 (n + 1) hp rfl)

/-- CAL_EXPAND keeps 1000 in every range and the ranges within the channel values. -/
theorem settles_calExpand {s : State} (n : Nat) (h : Resting s) (hc : s.cp = .cal) (ht : s.ports.calTrig = true)
    (hs : s.calState = .calibrating) : Settles (n + 4) s := by
  have hw : ∀ c, (lowerBound (s.MIN.get c) (s.CH.get c)).toNat ≤ 1000 ∧
      1000 ≤ (upperBound (s.MAX.get c) (s.CH.get c)).toNat ∧
      (upperBound (s.MAX.get c) (s.CH.get c)).toNat ≤ Config.chMax := by
    intro c
    have hv := channelValue_le_chMax (s.CH.get c)
    have hsr := h.session hs c
    rw [lowerBound_toNat, upperBound_toNat]
    omega
  refine settles_of_chain_eq (chain_calExpand (n + 3) hc ht hs) (settles_top n ?_ rfl)
  exact { h with
    session := fun _ c => by simpa using hw c
    bounds := fun c => by
      have hwc := hw c
      simp only [Config.chMax] at hwc
      simp
      omega }

theorem settles_calCommit {s : State} (n : Nat) (h : Resting s) (hc : s.cp = .cal) (ht : s.ports.calTrig = false)
    (hs : s.calState = .idle) : Settles (n + 5) s := by
  cases hg : s.gSpan
  · refine settles_of_chain_eq (chain_calReject (n + 4) hc ht hs hg) (settles_top (n + 1) ?_ rfl)
    exact { h with session := fun hs' => absurd (hs.symm.trans hs') (by decide), bounds := nvLoad_bounds s }
  · refine settles_of_chain_eq (chain_calCommit (n + 4) hc ht hs hg) (settles_ack n ?_ rfl hs)
    exact { h with store := nvStore_wf h.store }

theorem settles_cal {s : State} (n : Nat) (h : Resting s) (hc : s.cp = .cal) : Settles (n + 6) s := by
  cases ht : s.ports.calTrig <;> cases hs : s.calState
  case false.idle => exact settles_calCommit (n + 1) h hc ht hs
  case false.calibrating =>
    exact settles_of_chain_eq (chain_calExit (n + 5) hc ht hs)
      (settles_calCommit n { h with session := nofun } hc ht rfl)
  case true.idle =>
    refine settles_of_chain_eq (chain_calEnter (n + 5) hc ht hs) (settles_calExpand (n + 1) ?_ hc ht rfl)
    exact { h with
      session := fun _ c => by simp [Config.calSentinel, Config.chMax]
      bounds := fun c => by simp [Config.calSentinel] }
  case true.calibrating => exact settles_calExpand (n + 2) h hc ht hs

/-! #### A completed group -/

theorem settles_cycle {s : State} (n : Nat) (h : Resting s) (hc : s.cp = .cycle) (hy : s.synchronized = true) :
    Settles (n + 7) s := by
  refine settles_of_chain_eq (chain_cycle (n + 6) hc) ?_
  cases hg : s.ports.calTrig || s.gCal
  · have hi : s.calState = .idle := by
      cases hs : s.calState
      · rfl
      · simp [State.gCal, hs] at hg
    exact settles_mix (n + 2) { h with } (by simp) hy hi
  · exact settles_cal n { h with } (by simp)

theorem settles_frame {s : State} (n : Nat) (h : Resting s) (hc : s.cp = .frame) (hy : s.synchronized = true)
    (hs : s.stray = false) (hi : s.idx.toNat ≤ 25) : Settles (n + 8) s := by
  by_cases hf : s.idx = 25#5
  · cases hm : s.markersGood
    · exact settles_of_chain_eq (chain_frameBad (n + 7) hc hf hm) (settles_top (n + 4) { h with } rfl)
    · exact settles_of_chain_eq (chain_frameDone (n + 7) hc hf hm) (settles_cycle n { h with } rfl hy)
  · have hlt : s.idx.toNat ≤ 24 := by bv_omega
    exact ⟨s, chain_frameWait (n + 7) hc hf, h.safe_frame hc hy hs hlt, by simp [hc, isWaiting]⟩

/-! ### The tick -/

/-- The states in which part 2 of a tick begins: those of R39, but that a byte has been booked, so that a group may be complete and
`stray` may be set. -/
inductive Booked (s : State) : Prop where
  | top (h : Resting s) (hc : s.cp = .top)
  | probe (h : Resting s) (hc : s.cp = .probe) (hy : s.synchronized = false)
  | frame (h : Resting s) (hc : s.cp = .frame) (hy : s.synchronized = true) (hs : s.stray = false)
    (hi : s.idx.toNat ≤ 25)
  | ack (h : Resting s) (hc : s.cp = .ack) (hi : s.calState = .idle)
  | pulsing (h : Pulsing s) (hc : isScheduling s.cp = true)

theorem Booked.settles {s : State} (h : Booked s) : Settles chainFuel s := by
  cases h with
  | top h hc => exact settles_top 9 h hc
  | probe h hc hy => exact settles_probe 8 h hc hy
  | frame h hc hy hs hi => exact settles_frame 4 h hc hy hs hi
  | ack h hc hi => exact settles_ack 8 h hc hi
  | pulsing h hc =>
    have hcases : s.cp = .wait1 ∨ s.cp = .hold1 ∨ s.cp = .wait2 ∨ s.cp = .hold2 := by
      revert hc
      cases s.cp <;> simp [isScheduling]
    rcases hcases with hc | hc | hc | hc
    · exact settles_wait1 10 h hc
    · exact settles_hold1 9 h hc
    · exact settles_wait2 10 h hc
    · exact settles_hold2 8 h hc

theorem Safe.resting {s : State} (h : Safe s) (hc : isScheduling s.cp = false) : Resting s :=
  { h with
    lines := by
      rw [h.lines]
      revert hc
      cases s.cp <;> simp [isScheduling, expectedLines]
    session := fun hs => (h.session hs).1 }

theorem Safe.pulsing {s : State} (h : Safe s) (hc : isScheduling s.cp = true) : Pulsing s := by
  obtain ⟨hidle, hsync, hranges, hwidths⟩ := h.scheduling hc
  exact { h with idle := hidle, synced := hsync, ranges := hranges, widths := hwidths }

/-- Part 2 of a tick without a byte begins in a safe state. -/
theorem Safe.booked {s : State} (h : Safe s) : Booked s := by
  cases hsch : isScheduling s.cp
  · have hr := h.resting hsch
    have hw := h.atWait
    cases hc : s.cp
    case top => exact .top hr hc
    case probe => exact .probe hr hc (h.probing hc)
    case frame =>
      obtain ⟨hy, hs, hi⟩ := h.frameOpen hc
      exact .frame hr hc hy hs (by omega)
    case ack => exact .ack hr hc (h.acknowledging hc)
    all_goals simp [hc, isWaiting, isScheduling] at hw hsch
  · exact .pulsing (h.pulsing hsch) hsch

/-- RX_STRAY, at any control point but FRAME. -/
theorem Booked.rxStray {s : State} (h : Booked s) (hc : s.cp ≠ .frame) : Booked { s with stray := true } := by
  cases h with
  | top h hc => exact .top { h with } hc
  | probe h hc hy => exact .probe { h with } hc hy
  | frame _ hf => exact absurd hf hc
  | ack h hc hi => exact .ack { h with } hc hi
  | pulsing h hc => exact .pulsing { h with } hc

/-- Part 1 of a tick from a safe state answers a state in which part 2 can begin. -/
theorem Safe.bookByte_booked {s : State} (h : Safe s) : ∃ u, bookByte s = .next u ∧ Booked u := by
  unfold bookByte
  split
  · split
    · rename_i hc
      obtain ⟨hy, hs, hi⟩ := h.frameOpen hc
      refine ⟨_, execRxAccept_of_lt _ (by omega), .frame { h.resting (by simp [hc, isScheduling]) with } hc hy hs ?_⟩
      change (s.idx + 1#5).toNat ≤ 25
      bv_omega
    · rename_i hc
      exact ⟨_, rfl, h.booked.rxStray hc⟩
  · exact ⟨s, rfl, h.booked⟩

theorem Safe.not_reserved {s : State} (h : Safe s) : isReserved s.cp = false := by
  have hw := h.atWait
  revert hw
  cases s.cp <;> simp [isWaiting, isReserved]

/-- TICK from a safe state (R111): a byte is booked, the chain settles, the clock advances. -/
theorem Safe.tick_safe {s : State} (h : Safe s) : ∃ t, execTick s = .next t ∧ Safe t ∧ isWaiting t.cp = true := by
  have hs : Safe { s with events := [] } := { h with }
  obtain ⟨u, hu, hbooked⟩ := hs.bookByte_booked
  obtain ⟨v, hv, hsafe, hwait⟩ := hbooked.settles
  refine ⟨v.advanceClock, ?_, { hsafe with }, hwait⟩
  rw [execTick_go h.not_reserved, hu, andThen_next, execRun, hv, andThen_next]

/-- RESET from any state whose store has its form (R256). -/
theorem execReset_safe {s : State} (fmt : Bool) (h : Memory.wf s.NV) : ∃ t, execReset fmt s = .next t ∧ Safe t := by
  refine ⟨_, rfl, Resting.safe_idle ⟨rfl, nofun, nvLoad_bounds _, ?_⟩ (.inr rfl) rfl⟩
  cases fmt
  · exact h
  · exact nvFormat_wf h

/-- Settles O52: an edge that holds the block changes no register; the release of `rst` is RESET, which leaves a safe state, and
then a tick; every other edge is a tick. -/
theorem everyStepKeepsSafe : Obligations.EveryStepKeepsSafe := by
  unfold Obligations.EveryStepKeepsSafe
  intro s h
  have he : Safe s.atEdge := { h with }
  cases hn : s.nextPorts.rst
  · cases hp : s.ports.rst
    · obtain ⟨t, ht, hsafe, hwait⟩ := he.tick_safe
      exact ⟨t, (step_tick hn hp).trans ht, hsafe, fun _ => hwait⟩
    · obtain ⟨u, hu, hreset⟩ := execReset_safe s.nextPorts.fmtReq he.store
      obtain ⟨t, ht, hsafe, hwait⟩ := hreset.tick_safe
      refine ⟨t, ?_, hsafe, fun _ => hwait⟩
      rw [step_release hn hp, hu, andThen_next, ht]
  · exact ⟨s.atEdge, step_held hn, he, nofun⟩

end Sys2Proof.Machine

/-! ### The clock is read by differences only (R24)

An operation whose outcome moves with the clock is `ClockFree`; sequences of such operations are, and so are RUN and TICK. -/

namespace Sys2Proof.Machine

/-- Adding a constant to `now`, `T` and `dl` adds it to the outcome and changes nothing else. -/
def ClockFree (f : State → Result) : Prop := ∀ k s, f (s.shiftClock k) = mapNext (State.shiftClock k) (f s)

@[simp] theorem mapNext_next (f : State → State) (s : State) : mapNext f (.next s) = .next (f s) := rfl

@[simp] theorem mapNext_fault (f : State → State) (e : Fault) : mapNext f (.fault e) = .fault e := rfl

theorem ClockFree.andThen {f g : State → Result} (hf : ClockFree f) (hg : ClockFree g) :
    ClockFree fun s => andThen (f s) g := by
  intro k s
  simp only [hf k s, mapNext, andThen_assoc, andThen_next]
  exact congrArg (Machine.andThen (f s)) (funext (hg k))

theorem reached_shift (now d k : Time) : reached (now + k) (d + k) = reached now d := by
  rw [reached, reached, add_sub_add_right_eq_sub]

theorem selectedOps_shift (k : Time) (s : State) : (s.shiftClock k).selectedOps = s.selectedOps := by
  have hr : (s.shiftClock k).gReached = s.gReached := congrArg (readsDeadline s.cp && ·) (reached_shift _ _ _)
  rw [selectedOps_eq, selectedOps_eq, hr]
  rfl

theorem execMixOk_clockFree : ClockFree execMixOk := by
  intro k s
  cases hg : s.gRange
  · rw [execMixOk_of_degenerate hg, execMixOk_of_degenerate (s := s.shiftClock k) hg, mapNext_fault]
  · rw [execMixOk_of_range hg, execMixOk_of_range (s := s.shiftClock k) hg, mapNext_next]
    simp only [State.shiftClock, State.mixedWidths, add_right_comm]

theorem execNorm_clockFree : ClockFree execNorm := by
  intro k s
  cases hg : s.gRange
  · rw [execNorm_of_degenerate hg, execNorm_of_degenerate (s := s.shiftClock k) hg, mapNext_fault]
  · rw [execNorm_of_range hg, execNorm_of_range (s := s.shiftClock k) hg]
    rfl

theorem execRxAccept_clockFree (b : Byte) : ClockFree (execRxAccept b) := by
  intro k s
  rcases Nat.lt_or_ge s.idx.toNat 25 with h | h
  · rw [execRxAccept_of_lt b h, execRxAccept_of_lt (s := s.shiftClock k) b h]
    rfl
  · rw [execRxAccept_of_le b h, execRxAccept_of_le (s := s.shiftClock k) b h, mapNext_fault]

theorem execNvByte_clockFree (a : BitVec 4) (v : Byte) : ClockFree (execNvByte a v) := by
  intro k s
  rcases Nat.lt_or_ge a.toNat 8 with h | h
  · rw [execNvByte_of_lt v _ h, execNvByte_of_lt v _ h, mapNext_next, State.setBound, State.setBound]
    split <;> rfl
  · rw [execNvByte_of_le v _ h, execNvByte_of_le v _ h, mapNext_fault]

/-- Every operation by itself: those that set a deadline add a constant to `now` or `T`, and no other computes with an instant. -/
theorem exec_clockFree {i : Instr} (hi : isSingle i = true) : ClockFree (exec i) := by
  cases i
  case run | tick | frame | reset => cases hi
  case mixOk => exact execMixOk_clockFree
  case norm => exact execNorm_clockFree
  case rxAccept b => exact execRxAccept_clockFree b
  case nvByte a v => exact execNvByte_clockFree a v
  case probeStart =>
    intro k s
    simp [exec, execProbeStart, State.goto, State.shiftClock, add_right_comm]
  case calCommit =>
    intro k s
    simp [exec, execCalCommit, execNvStore, State.nvStore, State.bound, State.goto, State.shiftClock, add_right_comm]
  case pulse1On =>
    intro k s
    simp [exec, execPulse1On, State.assertLine, State.goto, State.shiftClock, add_right_comm]
  case pulse1Off =>
    intro k s
    simp [exec, execPulse1Off, State.deassertLine, State.goto, State.shiftClock, add_right_comm]
  case pulse2On =>
    intro k s
    simp [exec, execPulse2On, State.assertLine, State.goto, State.shiftClock, add_right_comm]
  all_goals exact fun _ _ => rfl

theorem isSingle_of_mem_operationMap : ∀ i ∈ operationMap.map Row.instr, isSingle i = true := by decide

theorem performAll_clockFree (is : List Instr) (h : ∀ i ∈ is, i ∈ operationMap.map Row.instr) :
    ClockFree (performAll is) := by
  induction is with
  | nil => exact fun _ _ => rfl
  | cons i is ih =>
    obtain ⟨hi, his⟩ := List.forall_mem_cons.mp h
    have hp : perform i = exec i := funext (perform_eq_of_mem hi)
    have hc := (exec_clockFree (isSingle_of_mem_operationMap i hi)).andThen (ih his)
    rw [← hp] at hc
    exact hc

theorem mem_operationMap_of_selected {s : State} {i : Instr} (h : i ∈ s.selectedOps) :
    i ∈ operationMap.map Row.instr := by
  rw [selectedOps_eq] at h
  exact mem_listing h

theorem chain_clockFree (n : Nat) : ClockFree (chain n) := by
  induction n with
  | zero => exact fun _ _ => rfl
  | succ n ih =>
    intro k s
    have hp := performAll_clockFree s.selectedOps fun i hi => mem_operationMap_of_selected hi
    rw [chain, chain, selectedOps_shift]
    split
    · exact hp k s
    · exact hp.andThen ih k s

theorem bookByte_clockFree : ClockFree bookByte := by
  intro k s
  unfold bookByte
  split
  · rename_i hv
    rw [if_pos (show s.ports.rxValid = true from hv)]
    split
    · rename_i hc
      rw [if_pos (show s.cp = .frame from hc)]
      exact execRxAccept_clockFree _ k s
    · rename_i hc
      rw [if_neg (show s.cp ≠ .frame from hc)]
      rfl
  · rename_i hv
    rw [if_neg (show ¬ s.ports.rxValid = true from hv)]
    rfl

theorem advanceClock_clockFree : ClockFree fun s => .next s.advanceClock := by
  intro k s
  simp [State.advanceClock, State.shiftClock, add_right_comm]

theorem execTick_clockFree : ClockFree execTick := by
  intro k s
  cases hc : isReserved s.cp
  · rw [execTick_go hc, execTick_go (s := s.shiftClock k) hc]
    have hrun : ClockFree execRun := chain_clockFree chainFuel
    exact bookByte_clockFree.andThen (hrun.andThen advanceClock_clockFree) k { s with events := [] }
  · rw [execTick_reserved hc, execTick_reserved (s := s.shiftClock k) hc]
    rfl

/-- Settles O55: the single operations one by one; RUN and TICK are sequences of them whose selection compares instants only. -/
theorem clockShiftIsInvisible : Obligations.ClockShiftIsInvisible := by
  unfold Obligations.ClockShiftIsInvisible
  intro k i s hreset hframe
  cases hi : isSingle i
  · cases i
    case run => exact chain_clockFree chainFuel k s
    case tick => exact execTick_clockFree k s
    case reset f => exact absurd rfl (hreset f)
    case frame g f => exact absurd rfl (hframe g f)
    all_goals cases hi
  · exact exec_clockFree hi k s

end Sys2Proof.Machine

/-! ### Registers that are written before they are read (R40)

Within a tick the chain passes through TOP, CYCLE, CAL and MIX. `LiveEq` says which registers are read from there on, and every
operation of the chain keeps it. -/

namespace Sys2Proof.Machine

theorem UnreadEq.refl (s : State) : UnreadEq s s := ⟨rfl, fun _ _ _ _ => rfl, fun _ => rfl, fun _ => rfl, fun _ => rfl⟩

/-- States that differ at most in registers that are written before they are next read, at any control point: what UnreadEq says,
and the group and its timestamp at CYCLE, the channel values at CAL, and they and the timestamp at MIX are the same. -/
structure LiveEq (s t : State) : Prop extends UnreadEq s t where
  cycle : s.cp = .cycle → t.F = s.F ∧ t.T = s.T
  cal : s.cp = .cal → t.CH = s.CH
  mix : s.cp = .mix → t.CH = s.CH ∧ t.T = s.T

/-- The states differ in no other registers than those that can be unread. -/
def SameRest (s t : State) : Prop := t = { s with F := t.F, T := t.T, dl := t.dl, CH := t.CH, PW := t.PW }

theorem SameRest.exists_registers {s t : State} (h : SameRest s t) :
    ∃ F T d C P, t = { s with F := F, T := T, dl := d, CH := C, PW := P } := ⟨_, _, _, _, _, h⟩

theorem SameRest.cp_eq {s t : State} (h : SameRest s t) : t.cp = s.cp := by
  obtain ⟨F, T, d, C, P, rfl⟩ := h.exists_registers
  rfl

theorem SameRest.ports_eq {s t : State} (h : SameRest s t) : t.ports = s.ports := by
  obtain ⟨F, T, d, C, P, rfl⟩ := h.exists_registers
  rfl

theorem SameRest.nextPorts_eq {s t : State} (h : SameRest s t) : t.nextPorts = s.nextPorts := by
  obtain ⟨F, T, d, C, P, rfl⟩ := h.exists_registers
  rfl

/-! #### What is read from each control point on -/

section LiveAt

variable {s t : State} (h : SameRest s t)
include h

theorem liveEq_top (hc : s.cp = .top) : LiveEq s t := by
  refine ⟨⟨h, ?_, ?_, ?_, ?_⟩, ?_, ?_, ?_⟩ <;> simp [hc, readsDeadline]

theorem liveEq_deadline (hc : s.cp = .probe ∨ s.cp = .ack ∨ s.cp = .hold2) (hd : t.dl = s.dl) : LiveEq s t := by
  rcases hc with hc | hc | hc <;> refine ⟨⟨h, ?_, ?_, ?_, ?_⟩, ?_, ?_, ?_⟩ <;> simp [hc, hd]

theorem liveEq_frame (hc : s.cp = .frame) (hF : ∀ i (h : i < 25), i < s.idx.toNat → t.F[i] = s.F[i]) : LiveEq s t := by
  refine ⟨⟨h, fun _ => hF, ?_, ?_, ?_⟩, ?_, ?_, ?_⟩ <;> simp [hc, readsDeadline]

theorem liveEq_cycle (hc : s.cp = .cycle) (hF : t.F = s.F) (hT : t.T = s.T) : LiveEq s t := by
  refine ⟨⟨h, ?_, ?_, ?_, ?_⟩, ?_, ?_, ?_⟩ <;> simp [hc, hF, hT, readsDeadline]

theorem liveEq_cal (hc : s.cp = .cal) (hC : t.CH = s.CH) : LiveEq s t := by
  refine ⟨⟨h, ?_, ?_, ?_, ?_⟩, ?_, ?_, ?_⟩ <;> simp [hc, hC, readsDeadline]

theorem liveEq_mix (hc : s.cp = .mix) (hC : t.CH = s.CH) (hT : t.T = s.T) : LiveEq s t := by
  refine ⟨⟨h, ?_, ?_, ?_, ?_⟩, ?_, ?_, ?_⟩ <;> simp [hc, hC, hT, readsDeadline]

theorem liveEq_slot1 (hc : s.cp = .wait1 ∨ s.cp = .hold1) (hT : t.T = s.T) (hd : t.dl = s.dl) (hP : t.PW = s.PW) :
    LiveEq s t := by
  rcases hc with hc | hc <;> refine ⟨⟨h, ?_, ?_, ?_, ?_⟩, ?_, ?_, ?_⟩ <;> simp [hc, hT, hd, hP]

theorem liveEq_wait2 (hc : s.cp = .wait2) (hd : t.dl = s.dl) (hP : t.PW = s.PW) : LiveEq s t := by
  refine ⟨⟨h, ?_, ?_, ?_, ?_⟩, ?_, ?_, ?_⟩ <;> simp [hc, hd, hP]

end LiveAt

/-! #### The chain -/

/-- A chain of at most `n` selections keeps LiveEq. -/
def ChainKeepsLive (n : Nat) : Prop := ∀ s t, LiveEq s t → Related LiveEq (chain n s) (chain n t)

section ChainStep

variable {n : Nat} {s t : State}

theorem chain_live_stall (h : LiveEq s t) (hd : readsDeadline s.cp = true) (hr : reached s.now s.dl = false) :
    Related LiveEq (chain (n + 1) s) (chain (n + 1) t) := by
  have hdl := h.deadline hd
  obtain ⟨F, T, d, C, P, rfl⟩ := SameRest.exists_registers h.rest
  obtain rfl : d = s.dl := hdl
  exact related_of_eq (chain_stall n hd hr) (chain_stall n hd hr) h

theorem chain_live_top (ih : ChainKeepsLive n) (h : LiveEq s t) (hc : s.cp = .top) :
    Related LiveEq (chain (n + 1) s) (chain (n + 1) t) := by
  obtain ⟨F, T, d, C, P, rfl⟩ := SameRest.exists_registers h.rest
  rcases Bool.eq_false_or_eq_true s.stray with hs | hs
  · exact related_of_eq (chain_topCheck n hc hs) (chain_topCheck n hc hs) (ih _ _ (liveEq_top rfl hc))
  rcases Bool.eq_false_or_eq_true s.synchronized with hy | hy
  · exact related_of_eq (chain_frameStart_one n hc hs hy) (chain_frameStart_one n hc hs hy)
      (ih _ _ (liveEq_frame rfl rfl (by simp)))
  · exact related_of_eq (chain_probeStart_one n hc hs hy) (chain_probeStart_one n hc hs hy)
      (ih _ _ (liveEq_deadline rfl (.inl rfl) rfl))

theorem chain_live_probe (ih : ChainKeepsLive n) (h : LiveEq s t) (hc : s.cp = .probe) (hr : reached s.now s.dl = true) :
    Related LiveEq (chain (n + 1) s) (chain (n + 1) t) := by
  have hdl := h.deadline (by simp [hc, readsDeadline])
  obtain ⟨F, T, d, C, P, rfl⟩ := SameRest.exists_registers h.rest
  obtain rfl : d = s.dl := hdl
  rcases Bool.eq_false_or_eq_true s.stray with hs | hs
  · exact related_of_eq (chain_probeFail n hc hr hs) (chain_probeFail n hc hr hs) (ih _ _ (liveEq_top rfl rfl))
  · exact related_of_eq (chain_probeOk n hc hr hs) (chain_probeOk n hc hr hs) (ih _ _ (liveEq_top rfl rfl))

theorem chain_live_frame (ih : ChainKeepsLive n) (h : LiveEq s t) (hc : s.cp = .frame) :
    Related LiveEq (chain (n + 1) s) (chain (n + 1) t) := by
  have hbytes := h.bytes hc
  obtain ⟨F, T, d, C, P, rfl⟩ := SameRest.exists_registers h.rest
  by_cases hi : s.idx = 25#5
  · obtain rfl : F = s.F := Vector.ext fun i hlt => hbytes i hlt (by rw [hi]; exact hlt)
    rcases Bool.eq_false_or_eq_true s.markersGood with hm | hm
    · exact related_of_eq (chain_frameDone n hc hi hm) (chain_frameDone n hc hi hm)
        (ih _ _ (liveEq_cycle rfl rfl rfl rfl))
    · exact related_of_eq (chain_frameBad n hc hi hm) (chain_frameBad n hc hi hm) (ih _ _ (liveEq_top rfl rfl))
  · exact related_of_eq (chain_frameWait n hc hi) (chain_frameWait n hc hi) h

theorem chain_live_cycle (ih : ChainKeepsLive n) (h : LiveEq s t) (hc : s.cp = .cycle) :
    Related LiveEq (chain (n + 1) s) (chain (n + 1) t) := by
  obtain ⟨hF, hT⟩ := h.cycle hc
  obtain ⟨F, T, d, C, P, rfl⟩ := SameRest.exists_registers h.rest
  obtain rfl : F = s.F := hF
  obtain rfl : T = s.T := hT
  refine related_of_eq (chain_cycle n hc) (chain_cycle n hc) (ih _ _ ?_)
  rcases Bool.eq_false_or_eq_true (s.ports.calTrig || s.gCal) with hg | hg
  · exact liveEq_cal (by rw [SameRest]; rfl) (by simp [hg]) rfl
  · exact liveEq_mix (by rw [SameRest]; rfl) (by simp [hg]) rfl rfl

theorem chain_live_cal (ih : ChainKeepsLive n) (h : LiveEq s t) (hc : s.cp = .cal) :
    Related LiveEq (chain (n + 1) s) (chain (n + 1) t) := by
  have hCH := h.cal hc
  obtain ⟨F, T, d, C, P, rfl⟩ := SameRest.exists_registers h.rest
  obtain rfl : C = s.CH := hCH
  have hcal : s.calState = .idle ∨ s.calState = .calibrating := by cases s.calState <;> simp
  rcases Bool.eq_false_or_eq_true s.ports.calTrig with ht | ht <;> rcases hcal with hs | hs
  · exact related_of_eq (chain_calEnter n hc ht hs) (chain_calEnter n hc ht hs) (ih _ _ (liveEq_cal rfl hc rfl))
  · exact related_of_eq (chain_calExpand n hc ht hs) (chain_calExpand n hc ht hs) (ih _ _ (liveEq_top rfl rfl))
  · rcases Bool.eq_false_or_eq_true s.gSpan with hg | hg
    · exact related_of_eq (chain_calCommit n hc ht hs hg) (chain_calCommit n hc ht hs hg)
        (ih _ _ (liveEq_deadline rfl (.inr (.inl rfl)) rfl))
    · exact related_of_eq (chain_calReject n hc ht hs hg) (chain_calReject n hc ht hs hg)
        (ih _ _ (liveEq_top rfl rfl))
  · exact related_of_eq (chain_calExit n hc ht hs) (chain_calExit n hc ht hs) (ih _ _ (liveEq_cal rfl hc rfl))

theorem chain_live_mix (ih : ChainKeepsLive n) (h : LiveEq s t) (hc : s.cp = .mix) :
    Related LiveEq (chain (n + 1) s) (chain (n + 1) t) := by
  obtain ⟨hCH, hT⟩ := h.mix hc
  obtain ⟨F, T, d, C, P, rfl⟩ := SameRest.exists_registers h.rest
  obtain rfl : C = s.CH := hCH
  obtain rfl : T = s.T := hT
  rcases Bool.eq_false_or_eq_true s.gRange with hg | hg
  · exact related_of_eq (chain_mixOk_one n hc hg) (chain_mixOk_one n hc hg)
      (ih _ _ (liveEq_slot1 rfl (.inl rfl) rfl rfl rfl))
  · exact related_of_eq (chain_mixDegenerate n hc hg) (chain_mixDegenerate n hc hg) (ih _ _ (liveEq_top rfl rfl))

theorem chain_live_ack (ih : ChainKeepsLive n) (h : LiveEq s t) (hc : s.cp = .ack) (hr : reached s.now s.dl = true) :
    Related LiveEq (chain (n + 1) s) (chain (n + 1) t) := by
  have hdl := h.deadline (by simp [hc, readsDeadline])
  obtain ⟨F, T, d, C, P, rfl⟩ := SameRest.exists_registers h.rest
  obtain rfl : d = s.dl := hdl
  exact related_of_eq (chain_ackEnd n hc hr) (chain_ackEnd n hc hr) (ih _ _ (liveEq_top rfl rfl))

theorem chain_live_wait1 (ih : ChainKeepsLive n) (h : LiveEq s t) (hc : s.cp = .wait1) (hr : reached s.now s.dl = true) :
    Related LiveEq (chain (n + 1) s) (chain (n + 1) t) := by
  have hdl := h.deadline (by simp [hc, readsDeadline])
  have hT := h.timestamp (.inl hc)
  have hPW := h.widths (.inl hc)
  obtain ⟨F, T, d, C, P, rfl⟩ := SameRest.exists_registers h.rest
  obtain rfl : d = s.dl := hdl
  obtain rfl : T = s.T := hT
  obtain rfl : P = s.PW := hPW
  exact related_of_eq (chain_pulse1On n hc hr) (chain_pulse1On n hc hr)
    (ih _ _ (liveEq_slot1 rfl (.inr rfl) rfl rfl rfl))

theorem chain_live_hold1 (ih : ChainKeepsLive n) (h : LiveEq s t) (hc : s.cp = .hold1) (hr : reached s.now s.dl = true) :
    Related LiveEq (chain (n + 1) s) (chain (n + 1) t) := by
  have hdl := h.deadline (by simp [hc, readsDeadline])
  have hT := h.timestamp (.inr hc)
  have hPW := h.widths (.inr (.inl hc))
  obtain ⟨F, T, d, C, P, rfl⟩ := SameRest.exists_registers h.rest
  obtain rfl : d = s.dl := hdl
  obtain rfl : T = s.T := hT
  obtain rfl : P = s.PW := hPW
  exact related_of_eq (chain_pulse1Off n hc hr) (chain_pulse1Off n hc hr) (ih _ _ (liveEq_wait2 rfl rfl rfl rfl))

theorem chain_live_wait2 (ih : ChainKeepsLive n) (h : LiveEq s t) (hc : s.cp = .wait2) (hr : reached s.now s.dl = true) :
    Related LiveEq (chain (n + 1) s) (chain (n + 1) t) := by
  have hdl := h.deadline (by simp [hc, readsDeadline])
  have hPW := h.widths (.inr (.inr hc))
  obtain ⟨F, T, d, C, P, rfl⟩ := SameRest.exists_registers h.rest
  obtain rfl : d = s.dl := hdl
  obtain rfl : P = s.PW := hPW
  exact related_of_eq (chain_pulse2On n hc hr) (chain_pulse2On n hc hr)
    (ih _ _ (liveEq_deadline rfl (.inr (.inr rfl)) rfl))

theorem chain_live_hold2 (ih : ChainKeepsLive n) (h : LiveEq s t) (hc : s.cp = .hold2) (hr : reached s.now s.dl = true) :
    Related LiveEq (chain (n + 1) s) (chain (n + 1) t) := by
  have hdl := h.deadline (by simp [hc, readsDeadline])
  obtain ⟨F, T, d, C, P, rfl⟩ := SameRest.exists_registers h.rest
  obtain rfl : d = s.dl := hdl
  exact related_of_eq (chain_pulse2Off n hc hr) (chain_pulse2Off n hc hr) (ih _ _ (liveEq_top rfl rfl))

theorem chain_live_reserved (h : LiveEq s t) (hc : s.cp = .reserved7 ∨ s.cp = .reserved12 ∨ s.cp = .reserved13 ∨
    s.cp = .reserved14 ∨ s.cp = .reserved15) : Related LiveEq (chain (n + 1) s) (chain (n + 1) t) := by
  obtain ⟨F, T, d, C, P, rfl⟩ := SameRest.exists_registers h.rest
  exact related_of_eq (chain_reserved n hc) (chain_reserved n hc) h

end ChainStep

theorem chainKeepsLive (n : Nat) : ChainKeepsLive n := by
  induction n with
  | zero => exact fun _ _ _ => rfl
  | succ n ih =>
    intro s t h
    by_cases hstall : readsDeadline s.cp = true ∧ reached s.now s.dl = false
    · exact chain_live_stall h hstall.1 hstall.2
    · have hr : readsDeadline s.cp = true → reached s.now s.dl = true := by simpa using hstall
      cases hc : s.cp
      case top => exact chain_live_top ih h hc
      case probe => exact chain_live_probe ih h hc (hr (by rw [hc]; rfl))
      case frame => exact chain_live_frame ih h hc
      case cycle => exact chain_live_cycle ih h hc
      case cal => exact chain_live_cal ih h hc
      case mix => exact chain_live_mix ih h hc
      case ack => exact chain_live_ack ih h hc (hr (by rw [hc]; rfl))
      case wait1 => exact chain_live_wait1 ih h hc (hr (by rw [hc]; rfl))
      case hold1 => exact chain_live_hold1 ih h hc (hr (by rw [hc]; rfl))
      case wait2 => exact chain_live_wait2 ih h hc (hr (by rw [hc]; rfl))
      case hold2 => exact chain_live_hold2 ih h hc (hr (by rw [hc]; rfl))
      all_goals exact chain_live_reserved h (by simp [hc])

/-! #### The tick and the step -/

theorem LiveEq.related_bookByte {s t : State} (h : LiveEq s t) : Related LiveEq (bookByte s) (bookByte t) := by
  have hbytes := h.bytes
  obtain ⟨F, T, d, C, P, rfl⟩ := SameRest.exists_registers h.rest
  by_cases hv : s.ports.rxValid = true
  · by_cases hc : s.cp = .frame
    · refine related_of_eq ((if_pos hv).trans (if_pos hc)) ((if_pos hv).trans (if_pos hc)) ?_
      rcases Nat.lt_or_ge s.idx.toNat 25 with hi | hi
      · refine related_of_eq (execRxAccept_of_lt _ hi)
          (execRxAccept_of_lt (s := { s with F := F, T := T, dl := d, CH := C, PW := P }) _ hi) (liveEq_frame rfl hc ?_)
        intro j hj hlt
        have hj' : j < s.idx.toNat ∨ s.idx.toNat = j := by
          change j < (s.idx + 1#5).toNat at hlt
          bv_omega
        simp only [Vector.getElem_set]
        split
        · rfl
        · exact hbytes hc j hj (by omega)
      · exact related_of_eq (execRxAccept_of_le _ hi) (execRxAccept_of_le _ hi) rfl
    · refine related_of_eq ((if_pos hv).trans (if_neg hc)) ((if_pos hv).trans (if_neg hc)) ?_
      exact { h with rest := rfl }
  · exact related_of_eq (if_neg hv) (if_neg hv) h

theorem LiveEq.related_tick {s t : State} (h : LiveEq s t) (hr : isReserved s.cp = false) :
    Related LiveEq (execTick s) (execTick t) := by
  have he : LiveEq { s with events := [] } { t with events := [] } := by
    obtain ⟨F, T, d, C, P, rfl⟩ := SameRest.exists_registers h.rest
    exact { h with rest := rfl }
  have hcp : t.cp = s.cp := SameRest.cp_eq h.rest
  refine related_of_eq (execTick_go hr) (execTick_go (hcp ▸ hr)) (he.related_bookByte.andThen fun u v huv => ?_)
  refine (chainKeepsLive chainFuel u v huv).andThen fun w x hwx => ?_
  obtain ⟨F, T, d, C, P, rfl⟩ := SameRest.exists_registers hwx.rest
  exact { hwx with rest := rfl }

/-- Between two ticks there is no control point but the waiting ones and TOP, so UnreadEq is all that LiveEq says. -/
theorem UnreadEq.live {s t : State} (h : UnreadEq s t) (hs : Safe s) : LiveEq s t := by
  have hw := hs.atWait
  refine { h with cycle := ?_, cal := ?_, mix := ?_ } <;> intro hc <;> simp [hc, isWaiting] at hw

theorem related_unreadEq_refl (r : Result) : Related UnreadEq r r := by
  cases r with
  | next s => exact UnreadEq.refl s
  | fault e => rfl
  | refused e => rfl

/-- RESET gives every register that can be unread the same value (log 2). -/
theorem execReset_eq_of_rest {s t : State} (fmt : Bool) (h : SameRest s t) : execReset fmt t = execReset fmt s := by
  obtain ⟨F, T, d, C, P, rfl⟩ := h.exists_registers
  cases fmt <;> rfl

/-- Settles O54: an edge that holds the block reads no register, the release of `rst` overwrites what is unread, and a tick reads
what LiveEq says and nothing else. -/
theorem unwrittenRegistersAreNotRead : Obligations.UnwrittenRegistersAreNotRead := by
  unfold Obligations.UnwrittenRegistersAreNotRead
  intro s t hs h
  have he : UnreadEq s.atEdge t.atEdge := by
    obtain ⟨F, T, d, C, P, rfl⟩ := SameRest.exists_registers h.rest
    exact { h with rest := rfl }
  have hports : t.ports = s.ports := SameRest.ports_eq h.rest
  have hnext : t.nextPorts = s.nextPorts := SameRest.nextPorts_eq h.rest
  rcases Bool.eq_false_or_eq_true s.nextPorts.rst with hn | hn
  · exact related_of_eq (step_held hn) (step_held (hnext ▸ hn)) he
  rcases Bool.eq_false_or_eq_true s.ports.rst with hp | hp
  · have hstep : step t = step s := by
      rw [step_release hn hp, step_release (hnext ▸ hn) (hports ▸ hp), hnext, execReset_eq_of_rest _ he.rest]
    rw [hstep]
    exact related_unreadEq_refl (step s)
  · have hsafe : Safe s.atEdge := { hs with }
    exact related_of_eq (step_tick hn hp) (step_tick (hnext ▸ hn) (hports ▸ hp))
      (((he.live hsafe).related_tick hsafe.not_reserved).mono fun _ _ => LiveEq.toUnreadEq)

end Sys2Proof.Machine

/-! ### What a single operation writes (R41), and the statements about one state -/

namespace Sys2Proof.Machine

/-- Settles O57: the next state of each operation is one update of the old one, and a register that R41 does not list for the
operation is not a field of that update. -/
theorem onlyListedOperationsWrite : Obligations.OnlyListedOperationsWrite := by
  unfold Obligations.OnlyListedOperationsWrite
  intro i s t hi h
  cases i
  case run | tick | frame | reset => cases hi
  case rxAccept b =>
    obtain ⟨hlt, rfl⟩ := execRxAccept_eq_next h
    simp
  case nvByte a v =>
    obtain rfl := execNvByte_eq_next h
    simp
  case norm =>
    obtain ⟨w, rfl⟩ := execNorm_eq_next h
    simp
  case mixOk =>
    obtain rfl := execMixOk_eq_next h
    simp
  all_goals
    obtain rfl := Host.Outcome.next.inj h
    simp [takeEvent_ev3]

/-! #### Stops, outputs and reset -/

/-- Settles O58, from the laws of the operations that stop. -/
theorem stopsOutsideTheRules : Obligations.StopsOutsideTheRules := by
  unfold Obligations.StopsOutsideTheRules
  intro s
  refine ⟨fun b h => execRxAccept_of_le b h, fun _ v h => execNvByte_of_le v s h, fun h => ?_⟩
  have hg : s.gRange = false := by rwa [← Bool.not_eq_true, gRange_iff]
  exact ⟨execNorm_of_degenerate hg, execMixOk_of_degenerate hg⟩

/-- Settles O50, by the two levels of `rst`. -/
theorem outputsFollowRegisters : Obligations.OutputsFollowRegisters := by
  unfold Obligations.OutputsFollowRegisters
  intro s
  constructor <;> intro h
  · simp [State.outputs, h]
  · simp [State.outputs, h]

/-- The bounds of the reset state are those of its store (R89). -/
theorem reset_bounds (c : Channel) :
    (State.reset.MIN.get c).toNat = 10 * (State.reset.nvRead (2 * c.index)).toNat ∧
      (State.reset.MAX.get c).toNat = 10 * (State.reset.nvRead (2 * c.index + 1)).toNat := by
  cases c <;> decide

theorem reset_resting : Resting State.reset where
  lines := rfl
  session := nofun
  bounds c := by
    obtain ⟨hmin, hmax⟩ := reset_bounds c
    omega
  store := reset_store_wf

/-- Settles O51. -/
theorem resetStateIsSafe : Obligations.ResetStateIsSafe :=
  ⟨reset_resting.safe_idle (.inr rfl) rfl, rfl, rfl, rfl, rfl, rfl, rfl, rfl, rfl, rfl, reset_bounds⟩

/-- Settles O49: RESET writes the values of `State.reset` (log 2). -/
theorem unspecifiedRegistersResetToZero : Obligations.UnspecifiedRegistersResetToZero :=
  ⟨fun _ _ => ⟨_, rfl, rfl, rfl, rfl, rfl, rfl, rfl, rfl⟩, rfl, rfl, rfl, rfl, rfl⟩

end Sys2Proof.Machine

/-! ### The store keeps its canonical form (R60, R63)

The single operations keep it: three of them write the store, inside its space, and no other touches it. RUN, TICK, RESET and FRAME are
sequences of what keeps it. -/

namespace Sys2Proof.Machine

/-- From a store in canonical form, a next state has its store in canonical form. -/
def KeepsStoreForm (f : State → Result) : Prop := ∀ s t, Memory.wf s.NV → f s = .next t → Memory.wf t.NV

theorem KeepsStoreForm.andThen {f g : State → Result} (hf : KeepsStoreForm f) (hg : KeepsStoreForm g) :
    KeepsStoreForm fun s => andThen (f s) g := by
  intro s t hs h
  obtain ⟨u, hu, ht⟩ := andThen_eq_next.mp h
  exact hg u t (hf s u hs hu) ht

theorem keepsStoreForm_next {f : State → State} (hf : ∀ s, Memory.wf s.NV → Memory.wf (f s).NV) :
    KeepsStoreForm fun s => .next (f s) := by
  intro s t hs h
  obtain rfl := Host.Outcome.next.inj h
  exact hf s hs

/-- R41's row of the store: NV_STORE, CAL_COMMIT and NV_FORMAT write it, no other single operation does. -/
theorem exec_store_eq {i : Instr} {s t : State} (hi : isSingle i = true) (hn : i ∉ [.nvStore, .calCommit, .nvFormat])
    (h : exec i s = .next t) : t.NV = s.NV := by
  obtain ⟨-, -, -, -, -, -, -, -, -, -, -, -, -, -, -, hstore, -⟩ := onlyListedOperationsWrite i s t hi h
  exact hstore hn

theorem exec_single_keepsStoreForm {i : Instr} (hi : isSingle i = true) : KeepsStoreForm (exec i) := by
  by_cases hn : i ∈ [.nvStore, .calCommit, .nvFormat]
  · simp only [List.mem_cons, List.not_mem_nil, or_false] at hn
    rcases hn with rfl | rfl | rfl
    · exact keepsStoreForm_next fun _ => nvStore_wf
    · exact keepsStoreForm_next fun _ => nvStore_wf
    · exact keepsStoreForm_next fun _ => nvFormat_wf
  · intro s t hs h
    rwa [exec_store_eq hi hn h]

theorem performAll_keepsStoreForm (is : List Instr) (h : ∀ i ∈ is, i ∈ operationMap.map Row.instr) :
    KeepsStoreForm (performAll is) := by
  induction is with
  | nil => exact keepsStoreForm_next fun _ hs => hs
  | cons i is ih =>
    obtain ⟨hi, his⟩ := List.forall_mem_cons.mp h
    have hp : perform i = exec i := funext (perform_eq_of_mem hi)
    have hkeep := (exec_single_keepsStoreForm (isSingle_of_mem_operationMap i hi)).andThen (ih his)
    rwa [← hp] at hkeep

theorem chain_keepsStoreForm (n : Nat) : KeepsStoreForm (chain n) := by
  induction n with
  | zero => exact fun _ _ _ h => nomatch h
  | succ n ih =>
    intro s t hs h
    have hp := performAll_keepsStoreForm s.selectedOps fun i hi => mem_operationMap_of_selected hi
    rw [chain] at h
    split at h
    · exact hp s t hs h
    · exact hp.andThen ih s t hs h

/-- Booking a byte is RX_ACCEPT, RX_STRAY or nothing (R111, part 1). -/
theorem bookByte_keepsStoreForm : KeepsStoreForm bookByte := by
  intro s t hs h
  unfold bookByte at h
  split at h
  · split at h
    · exact exec_single_keepsStoreForm (i := .rxAccept s.ports.rxData) rfl s t hs h
    · exact exec_single_keepsStoreForm (i := .rxStray) rfl s t hs h
  · exact keepsStoreForm_next (fun _ hs => hs) s t hs h

theorem execTick_keepsStoreForm : KeepsStoreForm execTick := by
  intro s t hs h
  cases hc : isReserved s.cp
  · rw [execTick_go hc] at h
    have hclock : KeepsStoreForm fun s => .next s.advanceClock := keepsStoreForm_next fun _ hs => hs
    exact bookByte_keepsStoreForm.andThen ((chain_keepsStoreForm chainFuel).andThen hclock)
      { s with events := [] } t hs h
  · rw [execTick_reserved hc] at h
    obtain rfl := Host.Outcome.next.inj h
    exact hs

theorem execReset_keepsStoreForm (fmt : Bool) : KeepsStoreForm (execReset fmt) := by
  cases fmt
  · exact keepsStoreForm_next fun _ hs => hs
  · exact keepsStoreForm_next fun _ => nvFormat_wf

/-- An edge sets the input levels, and then it is nothing, a TICK, or a RESET and a TICK (R96). -/
theorem clockEdge_keepsStoreForm (p : Ports) : KeepsStoreForm (clockEdge p) := by
  intro s t hs h
  unfold clockEdge at h
  split at h
  · obtain rfl := Host.Outcome.next.inj h
    exact hs
  · split at h
    · exact (execReset_keepsStoreForm p.fmtReq).andThen execTick_keepsStoreForm { s with ports := p } t hs h
    · exact execTick_keepsStoreForm { s with ports := p } t hs h

theorem clockEdges_keepsStoreForm (ps : List Ports) : KeepsStoreForm (clockEdges ps) := by
  induction ps with
  | nil => exact keepsStoreForm_next fun _ hs => hs
  | cons p ps ih => exact (clockEdge_keepsStoreForm p).andThen ih

/-- Settles O53: the single operations by what they write, RUN, TICK, RESET and FRAME as sequences. -/
theorem everyOperationKeepsStoreForm : Obligations.EveryOperationKeepsStoreForm := by
  unfold Obligations.EveryOperationKeepsStoreForm
  intro i
  cases hi : isSingle i
  · cases i
    case run => exact chain_keepsStoreForm chainFuel
    case tick => exact execTick_keepsStoreForm
    case reset fmt => exact execReset_keepsStoreForm fmt
    case frame gap f => exact fun s => clockEdges_keepsStoreForm (frameEdges gap s.ports (packFrame f).toList) s
    all_goals cases hi
  · exact exec_single_keepsStoreForm hi

/-! ### One bound by its slot (R61) -/

/-- The channel of a used slot is the one whose two slots, `2c` and `2c + 1`, hold the slot. -/
theorem eq_slotChannel_iff {a : Nat} (ha : a < 8) (c : Channel) : c = slotChannel a ↔ a / 2 = c.index := by
  have hq : a / 2 < 4 := by omega
  unfold slotChannel
  interval_cases a / 2 <;> cases c <;> decide

theorem setBound_MIN_get {a : Nat} (ha : a < 8) (s : State) (raw : Bound) (c : Channel) :
    (s.setBound a raw).MIN.get c = if a = 2 * c.index then raw else s.MIN.get c := by
  unfold State.setBound
  split
  · rw [PerChannel.get_set]
    exact if_congr (by rw [eq_slotChannel_iff ha]; omega) rfl rfl
  · exact (if_neg (by omega)).symm

theorem setBound_MAX_get {a : Nat} (ha : a < 8) (s : State) (raw : Bound) (c : Channel) :
    (s.setBound a raw).MAX.get c = if a = 2 * c.index + 1 then raw else s.MAX.get c := by
  unfold State.setBound
  split
  · exact (if_neg (by omega)).symm
  · rw [PerChannel.get_set]
    exact if_congr (by rw [eq_slotChannel_iff ha]; omega) rfl rfl

theorem setBound_eq (s : State) (a : Nat) (raw : Bound) :
    s.setBound a raw = { s with MIN := (s.setBound a raw).MIN, MAX := (s.setBound a raw).MAX } := by
  unfold State.setBound
  split <;> rfl

/-- Settles O26: in a used slot the operation is one update of the slot's bound, with ten times the byte (R88). -/
theorem nvByteLoadsOneBound : Obligations.NvByteLoadsOneBound := by
  unfold Obligations.NvByteLoadsOneBound
  intro a v s ha
  refine ⟨_, execNvByte_of_lt v s ha, setBound_eq s a.toNat (rawOfStored v), fun c => ⟨?_, ?_⟩⟩
  · rw [setBound_MIN_get ha, apply_ite BitVec.toNat, rawOfStored_toNat]
  · rw [setBound_MAX_get ha, apply_ite BitVec.toNat, rawOfStored_toNat]

end Sys2Proof.Machine

/-! ### The frame buffer's bits (R83, R150, R155)

The 22 bytes of the payload and the sixteen slots are digits of one number, in base 2^8 and in base 2^11; both are read bit by
bit. -/

namespace Sys2Proof.Machine

/-- The number whose base-2^w digits, least significant first, are the words. -/
def wordsValue {w : Nat} : List (BitVec w) → Nat
  | [] => 0
  | x :: xs => x.toNat + 2 ^ w * wordsValue xs

theorem bytesValue_eq_wordsValue (bs : List Byte) : bytesValue bs = wordsValue bs := by
  induction bs with
  | nil => rfl
  | cons b bs ih => simp [bytesValue, wordsValue, ih]

theorem slotsValue_eq_wordsValue (ss : List ChannelValue) : slotsValue ss = wordsValue ss := by
  induction ss with
  | nil => rfl
  | cons s ss ih => simp [slotsValue, wordsValue, ih]

/-- Bit `i` of digit `k` is bit `w * k + i` of the number; past the last digit there are zeros. -/
theorem wordsValue_testBit {w : Nat} (xs : List (BitVec w)) (k : Nat) {i : Nat} (hi : i < w) :
    (wordsValue xs).testBit (w * k + i) = (xs.getD k 0#w).getLsbD i := by
  induction xs generalizing k with
  | nil => simp [wordsValue]
  | cons x xs ih =>
    rw [wordsValue, Nat.add_comm x.toNat, Nat.testBit_two_pow_mul_add _ x.isLt]
    cases k with
    | zero => simp [hi, BitVec.getLsbD]
    | succ k =>
      have hshift : w * (k + 1) + i - w = w * k + i := by rw [Nat.mul_succ]; omega
      rw [if_neg (by rw [Nat.mul_succ]; omega), hshift, ih, List.getD_cons_succ]

/-- Bit `j` of the number stands in digit `j / w`. -/
theorem wordsValue_testBit_div {w : Nat} (hw : 0 < w) (xs : List (BitVec w)) (j : Nat) :
    (wordsValue xs).testBit j = (xs.getD (j / w) 0#w).getLsbD (j % w) := by
  rw [← wordsValue_testBit xs (j / w) (Nat.mod_lt j hw), Nat.div_add_mod]

theorem framePayload_testBit (F : Vector Byte 25) {j : Nat} (hj : j < 176) :
    (framePayload F).testBit j = F[1 + j / 8].getLsbD (j % 8) := by
  have hk : j / 8 < 22 := by omega
  have hbyte : ((F.toList.drop 1).take 22).getD (j / 8) 0#8 = F[1 + j / 8] := by
    simp [List.getD_eq_getElem?_getD, hk, Nat.add_comm 1]
  rw [framePayload_eq, bytesValue_eq_wordsValue, wordsValue_testBit_div (by decide), hbyte]

theorem framePayload_testBit_of_le (F : Vector Byte 25) {j : Nat} (hj : 176 ≤ j) :
    (framePayload F).testBit j = false := by
  have hk : 22 ≤ j / 8 := by omega
  rw [framePayload_eq, bytesValue_eq_wordsValue, wordsValue_testBit_div (by decide),
    List.getD_eq_default _ _ (by simp; omega)]
  simp

theorem slotOf_getLsbD (F : Vector Byte 25) (n : Nat) {i : Nat} (hi : i < 11) :
    (slotOf F n).getLsbD i = (framePayload F).testBit (11 * n + i) := by
  rw [slotOf, BitVec.getLsbD_ofNat, Nat.testBit_div_two_pow]
  simp [hi, Nat.add_comm]

/-- Settles O10: both are the bit of the payload. -/
theorem slotBitIsPayloadBit : Obligations.SlotBitIsPayloadBit := by
  unfold Obligations.SlotBitIsPayloadBit
  intro F n i hn hi
  have hbit := framePayload_testBit F (j := 11 * n + i) (by omega)
  exact ⟨hbit, (slotOf_getLsbD F n hi).trans hbit⟩

/-! #### Packing (R155) -/

theorem packFrame_eq (f : WireFrame) :
    packFrame f = Vector.ofFn fun i : Fin 25 =>
      if i.val = 0 then f.header
      else if i.val < 23 then BitVec.ofNat 8 (slotsValue f.slots.toList / 2 ^ (8 * (i.val - 1)))
      else if i.val = 23 then f.flags
      else f.trailer := rfl

theorem packFrame_header (f : WireFrame) : (packFrame f)[0] = f.header := by simp [packFrame_eq]

theorem packFrame_flags (f : WireFrame) : (packFrame f)[23] = f.flags := by simp [packFrame_eq]

theorem packFrame_trailer (f : WireFrame) : (packFrame f)[24] = f.trailer := by simp [packFrame_eq]

theorem packFrame_payload (f : WireFrame) {i : Nat} (hi : i < 22) :
    (packFrame f)[1 + i] = BitVec.ofNat 8 (slotsValue f.slots.toList / 2 ^ (8 * i)) := by
  have hlt : 1 + i < 23 := by omega
  simp [packFrame_eq, hlt]

/-- The packed bytes are the digits of the number whose digits are the slots. -/
theorem framePayload_packFrame (f : WireFrame) : framePayload (packFrame f) = slotsValue f.slots.toList := by
  refine Nat.eq_of_testBit_eq fun j => ?_
  rcases Nat.lt_or_ge j 176 with hj | hj
  · rw [framePayload_testBit _ hj, packFrame_payload f (by omega), BitVec.getLsbD_ofNat, Nat.testBit_div_two_pow,
      Nat.mod_add_div]
    simp [Nat.mod_lt]
  · have hk : 16 ≤ j / 11 := by omega
    rw [framePayload_testBit_of_le _ hj, slotsValue_eq_wordsValue, wordsValue_testBit_div (by decide),
      List.getD_eq_default _ _ (by simpa using hk)]
    simp

theorem slotOf_packFrame (f : WireFrame) (n : Nat) (hn : n < 16) : slotOf (packFrame f) n = f.slots[n] := by
  refine BitVec.eq_of_getLsbD_eq fun i hi => ?_
  rw [slotOf_getLsbD _ _ hi, framePayload_packFrame, slotsValue_eq_wordsValue, wordsValue_testBit _ _ hi]
  simp [List.getD_eq_getElem?_getD, hn]

theorem unpackFrame_packFrame (f : WireFrame) : unpackFrame (packFrame f) = f := by
  have hslots : Vector.ofFn (fun n : Fin 16 => slotOf (packFrame f) n.val) = f.slots :=
    Vector.ext fun n hn => by rw [Vector.getElem_ofFn, slotOf_packFrame f n hn]
  rw [unpackFrame_eq, hslots, packFrame_header, packFrame_flags, packFrame_trailer]

theorem markersRight_packFrame {gap : Nat} {f : WireFrame} (h : (Instr.frame gap f).wellFormed = true) :
    MarkersRight (packFrame f) := by
  rw [MarkersRight, packFrame_header, packFrame_trailer]
  simpa [Instr.wellFormed, WireFrame.wellFormed, Config.header, Config.trailer] using h

/-! ### Decode and encode -/

/-- R86: 25 bytes with the right markers are a frame, whatever their other bits. -/
theorem decodeWire_of_markersRight (gap : Nat) {F : Vector Byte 25} (h : MarkersRight F) :
    decodeWire gap F.toList = .ok (.frame gap (unpackFrame F)) := by
  obtain ⟨hheader, htrailer⟩ := h
  obtain ⟨⟨bytes⟩, hsize⟩ := F
  calc decodeWire gap bytes
      = if (unpackFrame ⟨⟨bytes⟩, hsize⟩).header ≠ Config.header then .error .badHeader
        else if (unpackFrame ⟨⟨bytes⟩, hsize⟩).trailer ≠ Config.trailer then .error .badTrailer
        else .ok (.frame gap (unpackFrame ⟨⟨bytes⟩, hsize⟩)) := dif_pos hsize
    _ = .ok (.frame gap (unpackFrame ⟨⟨bytes⟩, hsize⟩)) :=
      (if_neg (not_not_intro hheader)).trans (if_neg (not_not_intro htrailer))

theorem decodeWire_packFrame {gap : Nat} {f : WireFrame} (h : (Instr.frame gap f).wellFormed = true) :
    decodeWire gap (packFrame f).toList = .ok (.frame gap f) := by
  rw [decodeWire_of_markersRight gap (markersRight_packFrame h), unpackFrame_packFrame]

/-- Settles O8: a dispatched operation's code is the match of its row, which selects it; a frame is packed and unpacked; the
other codes carry their operands. -/
theorem decodeOfEncodeIsIdentity : Obligations.DecodeOfEncodeIsIdentity := by
  unfold Obligations.DecodeOfEncodeIsIdentity
  intro i
  cases i
  case frame gap f => exact ⟨fun h _ => ⟨_, rfl, decodeWire_packFrame h⟩, nofun⟩
  case nvByte a v => exact ⟨fun h _ => ⟨_, rfl, if_pos (of_decide_eq_true h)⟩, nofun⟩
  case desync | nvLoad | nvStore | nvFormat | norm | thrMix | thrRedist | elvMix | toPw =>
    exact ⟨nofun, fun _ => rfl⟩
  all_goals exact ⟨fun _ _ => ⟨_, rfl, rfl⟩, nofun⟩

end Sys2Proof.Machine

/-! ### The operation map and the dispatch word (R93, R94) -/

namespace Sys2Proof.Machine

/-- A row among 1 to 24 and any row either differ in a bit that both look at, or the second looks at no bit that the first does
not. -/
theorem rows_disjoint_or_coarser : ∀ r ∈ operationMap.take 24, ∀ q ∈ operationMap,
    q.mask &&& r.mask = q.mask ∨ r.mtch &&& q.mask ≠ q.mtch &&& r.mask := by decide

/-- A word that matches a row selects what the row's match selects. -/
theorem selected_of_match {dw : BitVec 13} {r : Row} (hr : r ∈ operationMap.take 24) (h : dw &&& r.mask = r.mtch) :
    selected dw = selected r.mtch := by
  have hcare : selected dw = selected (dw &&& r.mask) :=
    selected_care fun q hq => h ▸ rows_disjoint_or_coarser r hr q hq
  rw [hcare, h]

theorem decode_match : ∀ r ∈ operationMap.take 24,
    decode (.dispatch r.mtch (if r.instr = .decodeFs then 1 else if r.instr = .branch then 2 else 0)) = .ok r.instr := by
  decide

theorem decode_dispatch_congr {dw dw' : BitVec 13} (h : selected dw = selected dw') (k : Nat) :
    decode (.dispatch dw k) = decode (.dispatch dw' k) := by
  simp only [decode, h]

theorem firstRow_stall {dw : BitVec 13} (h : ∀ r ∈ operationMap.take 24, dw &&& r.mask ≠ r.mtch) :
    firstRow dw = ⟨.stall, 0#13, 0#13⟩ := by
  have hnone : (operationMap.take 24).find? (fun r => r.hits dw) = none := by
    simpa [Row.hits, List.find?_eq_none] using h
  have hsplit : operationMap = operationMap.take 24 ++ [⟨.stall, 0#13, 0#13⟩] := rfl
  rw [firstRow, hsplit, List.find?_append, hnone]
  simp [Row.hits]

theorem rows_exclude : ∀ p ∈ operationMap.take 24, ∀ q ∈ operationMap.take 24,
    p.mtch &&& q.mask = q.mtch &&& p.mask → p = q ∨ p.mtch = 0x1200#13 ∧ q.mtch = 0x1200#13 := by decide

theorem match_compatible {dw : BitVec 13} {p q : Row} (hp : dw &&& p.mask = p.mtch) (hq : dw &&& q.mask = q.mtch) :
    p.mtch &&& q.mask = q.mtch &&& p.mask := by
  rw [← hp, ← hq]
  ac_rfl

/-! #### The bits of a dispatch word -/

theorem append_ofBool_getLsbD_zero {w : Nat} (x : BitVec w) (b : Bool) : (x ++ BitVec.ofBool b).getLsbD 0 = b := by
  rw [BitVec.getLsbD_append]
  cases b <;> rfl

theorem append_ofBool_getLsbD_succ {w : Nat} (x : BitVec w) (b : Bool) (i : Nat) :
    (x ++ BitVec.ofBool b).getLsbD (i + 1) = x.getLsbD i := by
  rw [BitVec.getLsbD_append, if_neg (by omega)]
  rfl

theorem dispatchWord_code (s : State) : s.dispatchWord.extractLsb' 9 4 = s.cp.code := by
  refine BitVec.eq_of_getLsbD_eq fun i hi => ?_
  simp only [BitVec.getLsbD_extractLsb', hi, decide_true, Bool.true_and, Nat.add_comm 9 i, State.dispatchWord,
    append_ofBool_getLsbD_succ]

theorem markersGood_iff (s : State) : s.markersGood = true ↔ MarkersRight s.F := by
  simp [markersGood_eq, MarkersRight]

theorem gMarker_iff (s : State) : s.gMarker = true ↔ s.cp = .frame ∧ s.idx = 25#5 ∧ MarkersRight s.F := by
  simp [State.gMarker, markersGood_iff, gFull_iff, and_assoc]

theorem gReached_iff (s : State) : s.gReached = true ↔ (s.now - s.dl).toNat < 2 ^ 31 ∧
    (s.cp = .probe ∨ s.cp = .wait1 ∨ s.cp = .hold1 ∨ s.cp = .wait2 ∨ s.cp = .hold2 ∨ s.cp = .ack) := by
  have hd : readsDeadline s.cp = true ↔
      s.cp = .probe ∨ s.cp = .wait1 ∨ s.cp = .hold1 ∨ s.cp = .wait2 ∨ s.cp = .hold2 ∨ s.cp = .ack := by
    cases s.cp <;> simp [readsDeadline]
  rw [State.gReached, Bool.and_eq_true, hd, reached, decide_eq_true_iff, and_comm]

/-- R93, field by field. -/
theorem dispatchWord_fields (s : State) :
    s.dispatchWord.getLsbD 8 = s.stray ∧ s.dispatchWord.getLsbD 7 = s.synchronized ∧
    s.dispatchWord.getLsbD 6 = s.gReached ∧ s.dispatchWord.getLsbD 5 = s.gFull ∧
    s.dispatchWord.getLsbD 4 = s.gMarker ∧ s.dispatchWord.getLsbD 3 = s.ports.calTrig ∧
    s.dispatchWord.getLsbD 2 = s.gCal ∧ s.dispatchWord.getLsbD 1 = s.gSpan ∧
    s.dispatchWord.getLsbD 0 = s.gRange := by
  simp only [State.dispatchWord, append_ofBool_getLsbD_zero, append_ofBool_getLsbD_succ, and_self]

/-- Settles O5: the fields of the word one by one; a row's match decides what is selected; and the rows' matches and masks
compared two by two. -/
theorem dispatchWordSelectsFirstRow : Obligations.DispatchWordSelectsFirstRow := by
  unfold Obligations.DispatchWordSelectsFirstRow
  refine ⟨fun s => ?_, fun dw r hr h => ?_, fun dw h => ?_, fun dw p q hp hq hpm hqm => ?_⟩
  · obtain ⟨h8, h7, h6, h5, h4, h3, h2, h1, h0⟩ := dispatchWord_fields s
    rw [h6, h5, h4, h2, h1, h0]
    exact ⟨dispatchWord_code s, h8, h7, gReached_iff s, gFull_iff s, gMarker_iff s, h3, gCal_iff s, gSpan_iff s,
      gRange_iff s⟩
  · rw [decode_dispatch_congr (selected_of_match hr h), decode_match r hr]
  · have hsel : selected dw = [.stall] := by
      rw [selected, firstRow_stall h]
      rfl
    simp [decode, hsel]
  · exact rows_exclude p hp q hq (match_compatible hpm hqm)

/-- Settles O6, from the listing of R112 with the guards in registers. -/
theorem guardsSelectTheirRows : Obligations.GuardsSelectTheirRows := by
  unfold Obligations.GuardsSelectTheirRows
  intro s
  have hsel := selectedOps_eq s
  refine ⟨?top, ?probe, ?frameDone, ?frameBad, ?frameWait, ?cycle, ?calEnter, ?calExpand, ?calExit, ?calCommit, ?calReject,
    ?mixDegenerate, ?mixOk, ?ack, ?wait1, ?hold1, ?wait2, ?hold2, ?reserved7, ?reserved12To15⟩
  case frameDone | frameBad =>
    intro hc hi hm
    simp [hsel, hc, listing, (gFull_iff s).2 hi, gMarker_eq hc hi, markersGood_iff s, hm]
  case frameWait =>
    intro hc hi
    have hf : s.gFull = false := by rwa [← Bool.not_eq_true, gFull_iff]
    simp [hsel, hc, listing, hf]
  case calEnter | calExpand | calExit =>
    intro hc ht hs
    simp [hsel, hc, listing, ht, State.gCal, hs]
  case calCommit | calReject =>
    intro hc ht hs hg
    have hspan : s.gSpan = true ↔ s.SpansGood := gSpan_iff s
    simp [hsel, hc, listing, ht, State.gCal, hs, hspan, hg]
  case mixDegenerate | mixOk =>
    intro hc hg
    have hrange : s.gRange = true ↔ s.RangesGood := gRange_iff s
    simp [hsel, hc, listing, hrange, hg]
  case reserved12To15 =>
    rintro (hc | hc | hc | hc) <;> rw [hsel, hc] <;> rfl
  case top | cycle | reserved7 =>
    intro hc
    rw [hsel, hc]
    rfl
  case probe | ack | wait1 | hold1 | wait2 | hold2 =>
    intro hc
    rw [hsel, gReached_eq (by simp [hc, readsDeadline]), hc]
    rfl

end Sys2Proof.Machine

/-! ### Steps without a reset, and the reserved codes (R95, U7) -/

namespace Sys2Proof.Machine

@[simp] theorem steps_zero (s : State) : steps 0 s = .next s := rfl

theorem steps_succ (n : Nat) (s : State) : steps (n + 1) s = andThen (step s) (steps n) := rfl

theorem nextPorts_eq_headD (s : State) : s.nextPorts = s.script.headD (idleEdge s.ports) := by
  unfold State.nextPorts
  cases s.script <;> rfl

theorem State.noReset.nextPorts_rst {s : State} {n : Nat} (h : s.noReset (n + 1)) : s.nextPorts.rst = false := by
  obtain ⟨hports, hscript⟩ := h
  unfold State.nextPorts
  split
  · exact hports
  · rename_i p ps hs
    exact hscript p (by simp [hs])

/-- After an edge without a reset, one edge fewer is left of them. -/
theorem State.noReset.after_edge {s t : State} {n : Nat} (h : s.noReset (n + 1)) (hports : t.ports = s.nextPorts)
    (hscript : t.script = s.script.tail) : t.noReset n := by
  refine ⟨hports ▸ h.nextPorts_rst, fun p hp => h.2 p ?_⟩
  rw [hscript] at hp
  cases hs : s.script with
  | nil => simp [hs] at hp
  | cons q ps => simp_all

theorem State.noReset.step_eq_tick {s : State} {n : Nat} (h : s.noReset (n + 1)) : step s = execTick s.atEdge :=
  step_tick h.nextPorts_rst h.1

/-- Without a reset a state at a reserved code is frozen for ever (log 7). -/
theorem steps_reserved (n : Nat) {s : State} (hc : isReserved s.cp = true) (h : s.noReset n) :
    ∃ t, steps n s = .next t ∧ t = { s with ports := t.ports, script := t.script, events := t.events } := by
  induction n generalizing s with
  | zero => exact ⟨s, rfl, rfl⟩
  | succ n ih =>
    obtain ⟨t, ht, hframe⟩ := ih (s := { s.atEdge with events := [] }) hc (h.after_edge rfl rfl)
    refine ⟨t, ?_, hframe⟩
    rw [steps_succ, h.step_eq_tick, execTick_reserved (s := s.atEdge) hc, andThen_next, ht]

theorem isReserved_iff (c : ControlPoint) : isReserved c = true ↔
    c = .reserved7 ∨ c = .reserved12 ∨ c = .reserved13 ∨ c = .reserved14 ∨ c = .reserved15 := by
  cases c <;> simp [isReserved]

theorem chainRuns_reserved {s : State} (hc : isReserved s.cp = true) : ChainRuns s [] s := by
  have hsel := selectedOps_eq s
  rw [isReserved_iff] at hc
  rcases hc with hc | hc | hc | hc | hc
  · exact .stop s .reservedCp7 rfl (by rw [hsel, hc]; rfl)
  all_goals exact .stop s .reservedCp12To15 rfl (by rw [hsel, hc]; rfl)

/-- Settles O7: at a reserved code the chain stops at once, a tick is frozen, and so are any number of them. -/
theorem reservedCodeIsStuck : Obligations.ReservedCodeIsStuck := by
  unfold Obligations.ReservedCodeIsStuck
  intro s
  refine ⟨rfl, rfl, fun h => ?_⟩
  have hc := (isReserved_iff s.cp).mpr h
  exact ⟨chainRuns_reserved hc, execTick_reserved hc, fun n hn => steps_reserved n hc hn⟩

/-! ### The operations of an edge (R96, R111, R256) -/

/-- Codes that all decode select what they decode to. -/
theorem filterMap_operation_eq {codes : List Code} {is : List Instr} (h : codes.map decode = is.map .ok) :
    codes.filterMap Code.operation = is := by
  induction codes generalizing is with
  | nil => cases is <;> simp_all
  | cons c codes ih =>
    cases is with
    | nil => cases h
    | cons i is =>
      obtain ⟨hc, hcodes⟩ := List.cons.inj h
      have hop : c.operation = some i := by simp [Code.operation, hc]
      rw [List.filterMap_cons_some hop, ih hcodes]

/-- Settles O1, by the two levels of `rst` before and at the edge. -/
theorem stepPerformsDecodedOperation : Obligations.StepPerformsDecodedOperation := by
  unfold Obligations.StepPerformsDecodedOperation
  intro s
  refine ⟨fun is h _ => ?_, step_held, step_release, step_tick, ?_⟩
  · rw [step, State.fetch, filterMap_operation_eq h]
  · rw [State.atEdge, nextPorts_eq_headD]
    rfl

/-! ### Codes written out, and stored bytes (R84, R88) -/

/-- Settles O9: each code is decoded as written. -/
theorem writtenOutCodesDecode : Obligations.WrittenOutCodesDecode := by
  unfold Obligations.WrittenOutCodesDecode
  decide

/-- Settles O13: a stored bound is divided by ten, a loaded byte is multiplied by ten. -/
theorem storedByteTruncatesBound : Obligations.StoredByteTruncatesBound := by
  unfold Obligations.StoredByteTruncatesBound
  refine ⟨fun raw h => ?_, rawOfStored_toNat⟩
  have hstored := storedOfRaw_toNat (raw := raw) (by omega)
  rw [rawOfStored_toNat, hstored]
  omega

/-! ### The placement of table words (log 22) -/

/-- With the same two bounds on every channel, `g_span` is one channel's. -/
theorem gSpan_uniform {s : State} {lo hi : Bound} (hmin : s.MIN = PerChannel.of fun _ => lo)
    (hmax : s.MAX = PerChannel.of fun _ => hi) : s.gSpan = spanGood lo hi := by
  simp [State.gSpan, hmin, hmax, PerChannel.of]

/-- With the same two bounds on every channel, `g_range` is one channel's. -/
theorem gRange_uniform {s : State} {lo hi : Bound} (hmin : s.MIN = PerChannel.of fun _ => lo)
    (hmax : s.MAX = PerChannel.of fun _ => hi) : s.gRange = rangeGood lo hi := by
  simp [State.gRange, hmin, hmax, PerChannel.of]

section Placement

variable (s : State) (dw : BitVec 13)

/-- The state in which the chain of the presented word begins: the edge's levels are on the ports and the trace is empty. -/
def State.presented : State := { (s.presentDispatch dw).atEdge with events := [] }

theorem presented_cp : (s.presented dw).cp = ControlPoint.ofCode (dw.extractLsb' 9 4) := rfl

theorem presented_gReached :
    (s.presented dw).gReached = (readsDeadline (s.presented dw).cp && dw.getLsbD 6) := by
  have hr : reached (s.presented dw).now (s.presented dw).dl = dw.getLsbD 6 := by
    change reached s.now (if dw.getLsbD 6 then s.now else s.now + 1#32) = _
    cases dw.getLsbD 6
    · exact reached_ahead (by decide) (by decide)
    · exact reached_self s.now
  rw [State.gReached, hr]

theorem presented_gFull : (s.presented dw).gFull = dw.getLsbD 5 := by
  change ((if dw.getLsbD 5 then 25#5 else 0#5) == 25#5) = _
  cases dw.getLsbD 5 <;> rfl

theorem presented_gMarker : (s.presented dw).gMarker =
    (decide ((s.presented dw).cp = .frame) && dw.getLsbD 5 && dw.getLsbD 4) := by
  have hm : (s.presented dw).markersGood = dw.getLsbD 4 := by
    have hF : (s.presented dw).F =
      (s.F.set 0 (if dw.getLsbD 4 then 0x0F#8 else ~~~0x0F#8)).set 24 0x00#8 := rfl
    rw [markersGood_eq, hF]
    cases dw.getLsbD 4 <;> simp
  rw [State.gMarker, presented_gFull, hm]

theorem presented_gCal : (s.presented dw).gCal = dw.getLsbD 2 := by
  change decide ((if dw.getLsbD 2 then CalState.calibrating else CalState.idle) = .calibrating) = _
  cases dw.getLsbD 2 <;> rfl

theorem presented_gSpan : (s.presented dw).gSpan =
    spanGood 0#12 (presentedMax (s.presented dw).cp (dw.getLsbD 1) (dw.getLsbD 0)) :=
  gSpan_uniform rfl rfl

theorem presented_gRange : (s.presented dw).gRange =
    rangeGood 0#12 (presentedMax (s.presented dw).cp (dw.getLsbD 1) (dw.getLsbD 0)) :=
  gRange_uniform rfl rfl

/-- What the presented word selects, in its own bits. -/
def presentedOps : List Instr :=
  let c := ControlPoint.ofCode (dw.extractLsb' 9 4)
  let hi := presentedMax c (dw.getLsbD 1) (dw.getLsbD 0)
  listing c (dw.getLsbD 8) (dw.getLsbD 7) (readsDeadline c && dw.getLsbD 6) (dw.getLsbD 5)
    (decide (c = .frame) && dw.getLsbD 5 && dw.getLsbD 4) (dw.getLsbD 3) (dw.getLsbD 2) (spanGood 0#12 hi)
    (rangeGood 0#12 hi)

theorem presented_selectedOps : (s.presented dw).selectedOps = presentedOps dw := by
  rw [selectedOps_eq, presented_gReached, presented_gFull, presented_gMarker, presented_gCal, presented_gSpan,
    presented_gRange]
  rfl

theorem mem_presentedOps_match : ∀ r ∈ operationMap, r.instr ∈ presentedOps r.mtch := by decide

end Placement

theorem withFetchWord_dispatch (s : State) (dw : BitVec 13) : s.withFetchWord 16 dw.toNat = s.presentDispatch dw := by
  rw [State.withFetchWord, if_neg (by decide), if_neg (by decide), BitVec.ofNat_toNat, BitVec.setWidth_eq]

theorem withFetchWord_frame (s : State) (w : Nat) : s.withFetchWord 200 w = s.presentFrame (tableFrame w) := rfl

theorem withFetchWord_storeByte (s : State) (w : Nat) :
    s.withFetchWord 8 w = s.presentStoreByte (BitVec.ofNat 8 w) := rfl

/-- Settles O59: a row's match selects its row in the state presented for it; the last byte completes the given group; and the
release of `rst` finds the given byte in slot 0. -/
theorem presentedWordIsSelected : Obligations.PresentedWordIsSelected := by
  unfold Obligations.PresentedWordIsSelected
  refine ⟨fun s r hr => ?_, fun s w => ?_, fun s w hs => ?_⟩
  · rw [withFetchWord_dispatch]
    refine ⟨fetch_tick rfl rfl, ?_⟩
    change r.instr ∈ (s.presented r.mtch).selectedOps
    rw [presented_selectedOps]
    exact mem_presentedOps_match r hr
  · rw [withFetchWord_frame]
    exact ⟨fetch_tick rfl rfl, ⟨rfl, rfl, rfl⟩, Vector.set_getElem_self _⟩
  · rw [withFetchWord_storeByte]
    refine ⟨fetch_release rfl rfl, ?_⟩
    change Memory.read (Memory.write s.NV 0 (BitVec.ofNat 8 w)) 0 = _
    rw [Memory.read_write hs, if_pos rfl]

end Sys2Proof.Machine

/-! ### The ignored bits of a frame (R86)

Every operation by itself keeps two states equal but for ignored bits: DECODE and DECODE_FS read no ignored bit, RX_ACCEPT writes
the same byte, and no other touches the buffer. -/

namespace Sys2Proof.Machine

/-- From states equal but for ignored bits, outcomes that are so. -/
def KeepsIgnored (f : State → Result) : Prop := ∀ s t, IgnoredEq s t → Related IgnoredEq (f s) (f t)

theorem KeepsIgnored.andThen {f g : State → Result} (hf : KeepsIgnored f) (hg : KeepsIgnored g) :
    KeepsIgnored fun s => andThen (f s) g :=
  fun s t h => (hf s t h).andThen hg

theorem keepsIgnored_next {f : State → State} (hf : ∀ s t, IgnoredEq s t → IgnoredEq (f s) (f t)) :
    KeepsIgnored fun s => .next (f s) := hf

theorem IgnoredEq.exists_buffer {s t : State} (h : IgnoredEq s t) :
    ∃ G, t = { s with F := G } ∧ IgnoredBitsEq s.F G := ⟨t.F, h.1, h.2⟩

/-! #### What is read of the buffer -/

theorem IgnoredBitsEq.byte6 {F G : Vector Byte 25} (h : IgnoredBitsEq F G) {i : Nat} (hi : i < 4) :
    G[6].getLsbD i = F[6].getLsbD i := by
  obtain ⟨-, hlow, -⟩ := h
  simpa [BitVec.getLsbD_extractLsb', hi] using congrArg (fun x => x.getLsbD i) hlow

/-- The first 44 bits of the payload are not ignored. -/
theorem IgnoredBitsEq.payload {F G : Vector Byte 25} (h : IgnoredBitsEq F G) {j : Nat} (hj : j < 44) :
    (framePayload G).testBit j = (framePayload F).testBit j := by
  rw [framePayload_testBit F (by omega), framePayload_testBit G (by omega)]
  rcases Nat.lt_or_ge j 40 with hlt | hge
  · rw [h.1 (1 + j / 8) (by omega) (.inl (by omega))]
  · have hbyte : 1 + j / 8 = 6 := by omega
    simp only [hbyte]
    exact h.byte6 (by omega)

/-- Slots 0 to 3 hold no ignored bit. -/
theorem IgnoredBitsEq.slotOf {F G : Vector Byte 25} (h : IgnoredBitsEq F G) {n : Nat} (hn : n < 4) :
    slotOf G n = slotOf F n := by
  refine BitVec.eq_of_getLsbD_eq fun i hi => ?_
  rw [slotOf_getLsbD F n hi, slotOf_getLsbD G n hi, h.payload (by omega)]

theorem IgnoredBitsEq.decodedChannels {F G : Vector Byte 25} (h : IgnoredBitsEq F G) (m : SlotMap) :
    decodedChannels m G = decodedChannels m F :=
  congrArg PerChannel.of (funext fun c => h.slotOf (m.get c).isLt)

theorem IgnoredBitsEq.failsafeBit {F G : Vector Byte 25} (h : IgnoredBitsEq F G) : failsafeBit G = failsafeBit F := h.2.2

theorem IgnoredEq.selectedOps {s t : State} (h : IgnoredEq s t) : t.selectedOps = s.selectedOps := by
  obtain ⟨G, rfl, hbits⟩ := h.exists_buffer
  have hm : State.markersGood { s with F := G } = s.markersGood := by
    rw [markersGood_eq, markersGood_eq, hbits.1 0 (by decide) (by decide), hbits.1 24 (by decide) (by decide)]
  have hg : State.gMarker { s with F := G } = s.gMarker := congrArg (decide (s.cp = .frame) && s.gFull && ·) hm
  rw [selectedOps_eq, selectedOps_eq, hg]
  rfl

/-- The same byte at the same place. -/
theorem IgnoredBitsEq.set {F G : Vector Byte 25} (h : IgnoredBitsEq F G) (k : Nat) (b : Byte) (hk : k < 25) :
    IgnoredBitsEq (F.set k b) (G.set k b) := by
  obtain ⟨hbytes, hlow, hflag⟩ := h
  refine ⟨fun i hi hi' => ?_, ?_, ?_⟩ <;> simp only [Vector.getElem_set] <;> split
  case refine_1.isFalse => exact hbytes i hi hi'
  case refine_2.isFalse => exact hlow
  case refine_3.isFalse => exact hflag
  all_goals rfl

/-! #### The operations -/

theorem execRxAccept_keepsIgnored (b : Byte) : KeepsIgnored (execRxAccept b) := by
  intro s t h
  obtain ⟨G, rfl, hbits⟩ := h.exists_buffer
  rcases Nat.lt_or_ge s.idx.toNat 25 with hi | hi
  · exact related_of_eq (execRxAccept_of_lt b hi) (execRxAccept_of_lt (s := { s with F := G }) b hi)
      ⟨rfl, hbits.set _ b hi⟩
  · exact related_of_eq (execRxAccept_of_le b hi) (execRxAccept_of_le b hi) rfl

theorem exec_keepsIgnored {i : Instr} (hi : isSingle i = true) : KeepsIgnored (exec i) := by
  cases i
  case run | tick | frame | reset => cases hi
  case rxAccept b => exact execRxAccept_keepsIgnored b
  all_goals
    intro s t h
    obtain ⟨G, rfl, hbits⟩ := h.exists_buffer
  case decode =>
    exact ⟨congrArg (fun c => ({ s with F := G, CH := c } : State)) (hbits.decodedChannels s.par.chSlot), hbits⟩
  case decodeFs =>
    exact ⟨congrArg (fun b => ({ s with F := G, failsafeOut := b } : State)) hbits.failsafeBit, hbits⟩
  case nvByte a v =>
    rcases Nat.lt_or_ge a.toNat 8 with ha | ha
    · refine related_of_eq (execNvByte_of_lt v s ha) (execNvByte_of_lt v _ ha) ⟨?_, by simpa using hbits⟩
      unfold State.setBound
      split <;> rfl
    · exact related_of_eq (execNvByte_of_le v s ha) (execNvByte_of_le v _ ha) rfl
  case norm =>
    rcases Bool.eq_false_or_eq_true s.gRange with hg | hg
    · exact related_of_eq (execNorm_of_range hg) (execNorm_of_range hg) ⟨rfl, hbits⟩
    · exact related_of_eq (execNorm_of_degenerate hg) (execNorm_of_degenerate hg) rfl
  case mixOk =>
    rcases Bool.eq_false_or_eq_true s.gRange with hg | hg
    · exact related_of_eq (execMixOk_of_range hg) (execMixOk_of_range hg) ⟨rfl, hbits⟩
    · exact related_of_eq (execMixOk_of_degenerate hg) (execMixOk_of_degenerate hg) rfl
  all_goals exact ⟨rfl, hbits⟩

/-! #### The chain and the tick -/

theorem performAll_keepsIgnored (is : List Instr) (h : ∀ i ∈ is, i ∈ operationMap.map Row.instr) :
    KeepsIgnored (performAll is) := by
  induction is with
  | nil => exact fun _ _ hst => hst
  | cons i is ih =>
    obtain ⟨hi, his⟩ := List.forall_mem_cons.mp h
    have hp : perform i = exec i := funext (perform_eq_of_mem hi)
    have hkeep := (exec_keepsIgnored (isSingle_of_mem_operationMap i hi)).andThen (ih his)
    rwa [← hp] at hkeep

theorem chain_keepsIgnored (n : Nat) : KeepsIgnored (chain n) := by
  induction n with
  | zero => exact fun _ _ _ => rfl
  | succ n ih =>
    intro s t h
    have hp := performAll_keepsIgnored s.selectedOps fun i hi => mem_operationMap_of_selected hi
    rw [chain, chain, h.selectedOps]
    split
    · exact hp s t h
    · exact hp.andThen ih s t h

theorem bookByte_keepsIgnored : KeepsIgnored bookByte := by
  intro s t h
  have haccept := execRxAccept_keepsIgnored s.ports.rxData s t h
  obtain ⟨G, rfl, hbits⟩ := h.exists_buffer
  unfold bookByte
  split
  · split
    · exact haccept
    · exact ⟨rfl, hbits⟩
  · exact h

theorem execTick_keepsIgnored : KeepsIgnored execTick := by
  intro s t h
  obtain ⟨G, rfl, hbits⟩ := h.exists_buffer
  cases hc : isReserved s.cp
  · have hclock : KeepsIgnored fun u => .next u.advanceClock := by
      refine keepsIgnored_next fun u v huv => ?_
      obtain ⟨H, rfl, hH⟩ := huv.exists_buffer
      exact ⟨rfl, hH⟩
    have hrun : KeepsIgnored execRun := chain_keepsIgnored chainFuel
    refine related_of_eq (execTick_go hc) (execTick_go hc) ?_
    exact bookByte_keepsIgnored.andThen (hrun.andThen hclock) { s with events := [] } _ ⟨rfl, hbits⟩
  · exact related_of_eq (execTick_reserved hc) (execTick_reserved hc) ⟨rfl, hbits⟩

/-- Settles O56: a tick is a sequence of operations that keep the states equal but for the ignored bits. -/
theorem ignoredFrameBitsHaveNoEffect : Obligations.IgnoredFrameBitsHaveNoEffect := execTick_keepsIgnored

end Sys2Proof.Machine

/-! ### The mixer in integers (R198)

Every intermediate of the mixer is an integer over a fixed positive integer, and clamping, adding and flooring such a fraction
is arithmetic on its numerator. -/

namespace Sys2Proof.Machine

/-- Clamping a fraction to 0 .. 1 clamps its numerator to 0 .. its denominator. -/
theorem clamp01_div (x : Int) {d : Int} (hd : 0 < d) : clamp01 ((x : Rat) / d) = (clampInt x 0 d : Rat) / d := by
  have hd' : (0 : Rat) < d := by exact_mod_cast hd
  have hone : (1 : Rat) = (d : Rat) / d := (div_self hd'.ne').symm
  have hclamp : clampInt x 0 d = max 0 (min d x) := by unfold clampInt; omega
  rw [clamp01, hclamp]
  push_cast
  rw [← max_div_div_right hd'.le, ← min_div_div_right hd'.le, ← hone, zero_div]

/-- What a fraction exceeds 1 by. -/
theorem excess_div (x : Int) {d : Int} (hd : 0 < d) : excess ((x : Rat) / d) = (max 0 (x - d) : Int) / (d : Rat) := by
  have hd' : (0 : Rat) < d := by exact_mod_cast hd
  rw [excess]
  push_cast
  rw [← max_div_div_right hd'.le, zero_div, sub_div, div_self hd'.ne']

theorem floor_div_int (x : Int) {d : Int} (hd : 0 < d) : ⌊(x : Rat) / d⌋ = x / d := by
  lift d to Nat using hd.le
  exact Rat.floor_intCast_div_natCast x d

theorem pulseWidthInt_eq (x : Int) : pulseWidthInt x = 880 + 13 * x / 20 := by
  have h : (x : Rat) * Config.pwScale = ((13 * x : Int) : Rat) / (20 : Int) := by
    rw [Config.pwScale]
    push_cast
    ring
  rw [pulseWidthInt, h, floor_div_int _ (by decide), Config.pwBase]

/-- R192, R194 for an output `p / (e * (hi - lo))`: the denominator's factor cancels with the span. -/
theorem toPulseWidth_div {lo hi : Bound} (h : lo.toNat < hi.toNat) {p e : Int} (he : 0 < e) (hp : 0 ≤ p)
    (hp' : p ≤ e * ((hi.toNat : Int) - lo.toNat)) :
    ((toPulseWidth lo hi ((p : Rat) / (e * ((hi.toNat : Int) - lo.toNat) : Int))).toNat : Int) =
      880 + 13 * ((lo.toNat : Int) + p / e) / 20 := by
  have hspan : (0 : Rat) < (((hi.toNat : Int) - lo.toNat : Int) : Rat) :=
    Int.cast_pos.mpr (by omega)
  have hscaled : scaledValue lo hi ((p : Rat) / (e * ((hi.toNat : Int) - lo.toNat) : Int)) = lo.toNat + p / e := by
    rw [scaledValue, Int.cast_mul, ← div_div, div_mul_cancel₀ _ hspan.ne', floor_div_int p he]
  have hq0 : 0 ≤ p / e := Int.ediv_nonneg hp he.le
  have hq1 : p / e ≤ (hi.toNat : Int) - lo.toNat := by
    apply Int.ediv_le_of_le_mul he
    linarith [mul_comm e ((hi.toNat : Int) - lo.toNat)]
  have hlt := hi.isLt
  rw [toPulseWidth, hscaled, pulseWidthInt_eq]
  exact narrowWidth_toNat (by omega) (by omega)

/-- A channel's span `D` (R198). -/
def State.span (s : State) (c : Channel) : Int := (s.MAX.get c).toNat - (s.MIN.get c).toNat

/-- A channel's value above its minimum, clamped to its span (R198). -/
def State.clamped (s : State) (c : Channel) : Int :=
  clampInt ((s.CH.get c).toNat - (s.MIN.get c).toNat) 0 (s.span c)

section Mixer

variable {s : State} (h : s.RangesGood)
include h

theorem State.RangesGood.span_pos (c : Channel) : 0 < s.span c := by
  have := h c
  unfold State.span
  omega

theorem State.RangesGood.span_ne (c : Channel) : (s.span c : Rat) ≠ 0 := Int.cast_ne_zero.mpr (h.span_pos c).ne'

theorem State.RangesGood.normalize_eq (c : Channel) :
    normalize (s.MIN.get c) (s.MAX.get c) (s.CH.get c) = (s.clamped c : Rat) / s.span c :=
  clamp01_div _ (h.span_pos c)

/-- The common denominator of the throttle commands. -/
theorem State.RangesGood.throttle_den_pos : 0 < 5 * s.span .rudder * s.span .throttle := by
  have := h.span_pos .rudder
  have := h.span_pos .throttle
  positivity

theorem State.RangesGood.elevator_den_pos : 0 < 2 * s.span .elevator * s.span .aileron := by
  have := h.span_pos .elevator
  have := h.span_pos .aileron
  positivity

theorem State.RangesGood.throttle1_eq :
    throttle1 ((s.clamped .rudder : Rat) / s.span .rudder) ((s.clamped .throttle : Rat) / s.span .throttle) =
      (s.clamped .throttle * (s.span .rudder + 8 * s.clamped .rudder) : Int) /
        (5 * s.span .rudder * s.span .throttle : Int) := by
  have hr := h.span_ne .rudder
  have ht := h.span_ne .throttle
  rw [throttle1, rudderDiff, Config.diffAuth]
  push_cast
  field_simp
  ring

theorem State.RangesGood.throttle2_eq :
    throttle2 ((s.clamped .rudder : Rat) / s.span .rudder) ((s.clamped .throttle : Rat) / s.span .throttle) =
      (s.clamped .throttle * (9 * s.span .rudder - 8 * s.clamped .rudder) : Int) /
        (5 * s.span .rudder * s.span .throttle : Int) := by
  have hr := h.span_ne .rudder
  have ht := h.span_ne .throttle
  rw [throttle2, rudderDiff, Config.diffAuth]
  push_cast
  field_simp
  ring

theorem State.RangesGood.elevator1_eq :
    elevator1 ((s.clamped .elevator : Rat) / s.span .elevator) ((s.clamped .aileron : Rat) / s.span .aileron) =
      (2 * s.clamped .elevator * s.span .aileron + 2 * s.clamped .aileron * s.span .elevator -
          s.span .elevator * s.span .aileron : Int) / (2 * s.span .elevator * s.span .aileron : Int) := by
  have he := h.span_ne .elevator
  have ha := h.span_ne .aileron
  rw [elevator1]
  push_cast
  field_simp

theorem State.RangesGood.one_sub_elevator2_eq :
    1 - elevator2 ((s.clamped .elevator : Rat) / s.span .elevator) ((s.clamped .aileron : Rat) / s.span .aileron) =
      (s.span .elevator * s.span .aileron - 2 * s.clamped .elevator * s.span .aileron +
          2 * s.clamped .aileron * s.span .elevator : Int) / (2 * s.span .elevator * s.span .aileron : Int) := by
  have he := h.span_ne .elevator
  have ha := h.span_ne .aileron
  rw [elevator2]
  push_cast
  field_simp
  ring

/-- A clamped fraction through its channel's range. -/
theorem State.RangesGood.width_eq (c : Channel) {x e d : Int} (he : 0 < e) (hd : d = e * s.span c) :
    ((toPulseWidth (s.MIN.get c) (s.MAX.get c) (clamp01 ((x : Rat) / d))).toNat : Int) =
      880 + 13 * (((s.MIN.get c).toNat : Int) + clampInt x 0 d / e) / 20 := by
  have hpos : 0 < d := hd ▸ mul_pos he (h.span_pos c)
  rw [clamp01_div x hpos]
  subst hd
  exact toPulseWidth_div (h c) he (by unfold clampInt; omega) (by unfold clampInt State.span; omega)

/-- R198: the mixer's widths are those of the integer form. -/
theorem State.RangesGood.mixedWidths_eq_integer (k : Output) :
    ((s.mixedWidths.get k).toNat : Int) = (integerWidths s.CH s.MIN s.MAX).get k := by
  have hden := h.throttle_den_pos
  have hr := h.span_pos .rudder
  have ha := h.span_pos .aileron
  have hsub (x y : Int) {d : Int} : (x : Rat) / d - (y : Rat) / d = ((x - y : Int) : Rat) / d := by
    push_cast
    ring
  cases k
  case thr1 | thr2 =>
    simp only [State.mixedWidths, PerOutput.get, h.normalize_eq, h.throttle1_eq, h.throttle2_eq, excess_div _ hden, hsub]
    exact h.width_eq .throttle (e := 5 * s.span .rudder) (by omega) rfl
  case elv1 =>
    simp only [State.mixedWidths, PerOutput.get, h.normalize_eq, h.elevator1_eq]
    exact h.width_eq .elevator (e := 2 * s.span .aileron) (by omega) (by ring)
  case elv2 =>
    simp only [State.mixedWidths, PerOutput.get, h.normalize_eq, h.one_sub_elevator2_eq]
    exact h.width_eq .elevator (e := 2 * s.span .aileron) (by omega) (by ring)

end Mixer

end Sys2Proof.Machine

/-! ### The reception of a frame (R84, R100, R131; log 11)

Before the 25th byte a tick of a collection books a byte or nothing, and the chain waits. So FRAME comes down to the tick of its
last byte: by induction over the bytes that are still to come, with the gap between two of them taken in one step. -/

namespace Sys2Proof.Machine

/-- A tick begins a new trace, so the old one is not read (log 8). -/
theorem execTick_events (e : List ErrorEvent) (s : State) : execTick { s with events := e } = execTick s := rfl

/-- The tick of a collection without a byte. -/
theorem execTick_collect_idle {s : State} (hc : s.cp = .frame) (hi : s.idx ≠ 25#5) (hv : s.ports.rxValid = false) :
    execTick s = .next { s with events := [], now := s.now + 1#32 } := by
  have hbook : bookByte { s with events := [] } = .next { s with events := [] } := by simp [bookByte, hv]
  have hrun : execRun { s with events := [] } = .next { s with events := [] } := chain_frameWait 11 hc hi
  rw [execTick_go (by simp [hc, isReserved]), hbook, andThen_next, hrun, andThen_next]
  rfl

/-- The tick of a collection that books one of the first 24 bytes. -/
theorem execTick_collect_byte {s : State} (hc : s.cp = .frame) (hi : s.idx.toNat < 24) (hv : s.ports.rxValid = true) :
    execTick s = .next { s with
      F := s.F.set s.idx.toNat s.ports.rxData, idx := s.idx + 1#5, events := [], now := s.now + 1#32 } := by
  have hbook : bookByte { s with events := [] } =
      .next { s with F := s.F.set s.idx.toNat s.ports.rxData, idx := s.idx + 1#5, events := [] } := by
    rw [bookByte, if_pos hv, if_pos hc]
    exact execRxAccept_of_lt _ _
  have hrun : execRun { s with F := s.F.set s.idx.toNat s.ports.rxData, idx := s.idx + 1#5, events := [] } =
      .next { s with F := s.F.set s.idx.toNat s.ports.rxData, idx := s.idx + 1#5, events := [] } :=
    chain_frameWait 11 hc (by change s.idx + 1#5 ≠ 25#5; bv_omega)
  rw [execTick_go (by simp [hc, isReserved]), hbook, andThen_next, hrun, andThen_next]
  rfl

theorem clockEdge_eq_tick {p : Ports} {s : State} (hp : p.rst = false) (hs : s.ports.rst = false) :
    clockEdge p s = execTick { s with ports := p } := by
  simp [clockEdge, hp, hs]

theorem clockEdges_cons (p : Ports) (ps : List Ports) (s : State) :
    clockEdges (p :: ps) s = andThen (clockEdge p s) (clockEdges ps) := rfl

/-- The first of some edges overwrites the port levels and the trace. -/
theorem clockEdges_ports_events {p q : Ports} {s : State} (hp : p.rst = false) (hq : q.rst = false)
    (hs : s.ports.rst = false) (ps : List Ports) (e : List ErrorEvent) :
    clockEdges (p :: ps) { s with ports := q, events := e } = clockEdges (p :: ps) s := by
  rw [clockEdges_cons, clockEdges_cons, clockEdge_eq_tick hp hs,
    clockEdge_eq_tick hp (s := { s with ports := q, events := e }) hq]
  exact congrArg (andThen · _) (execTick_events e { s with ports := p })

/-- A gap in a collection moves the clock and nothing else that the next edge reads. -/
theorem clockEdges_gap {p q : Ports} (hp : p.rst = false) (hq : q.rst = false) (ps : List Ports) (gap : Nat) {s : State}
    (hc : s.cp = .frame) (hi : s.idx ≠ 25#5) (hs : s.ports.rst = false) :
    clockEdges (List.replicate gap (idleEdge p) ++ q :: ps) s =
      clockEdges (q :: ps) { s with now := s.now + BitVec.ofNat 32 gap } := by
  induction gap generalizing s with
  | zero => simp
  | succ gap ih =>
    have hidle : clockEdge (idleEdge p) s =
        .next { s with ports := idleEdge p, events := [], now := s.now + 1#32 } := by
      rw [clockEdge_eq_tick (p := idleEdge p) hp hs]
      exact execTick_collect_idle hc hi rfl
    have hnow : s.now + 1#32 + BitVec.ofNat 32 gap = s.now + BitVec.ofNat 32 (gap + 1) := by
      rw [BitVec.add_assoc, ← BitVec.ofNat_add, Nat.add_comm 1]
    rw [List.replicate_succ, List.cons_append, clockEdges_cons, hidle, andThen_next,
      ih (s := { s with ports := idleEdge p, events := [], now := s.now + 1#32 }) hc hi hp]
    simp only [hnow]
    exact clockEdges_ports_events (s := { s with now := s.now + BitVec.ofNat 32 (gap + 1) }) hq hp hs ps []

/-- A byte and the gap after it. -/
theorem frameEdges_cons_cons (gap : Nat) (p : Ports) (b c : Byte) (bs : List Byte) :
    frameEdges gap p (b :: c :: bs) =
      rxEdge p b :: (List.replicate gap (idleEdge p) ++ frameEdges gap p (c :: bs)) := rfl

theorem frameEdges_cons_eq (gap : Nat) (p : Ports) (b : Byte) (bs : List Byte) :
    ∃ ps, frameEdges gap p (b :: bs) = rxEdge p b :: ps := by
  cases bs with
  | nil => exact ⟨_, rfl⟩
  | cons c bs => exact ⟨_, rfl⟩

theorem drop_bytes_cons (V : Vector Byte 25) {k : Nat} (hk : k < 25) :
    V.toList.drop k = V[k] :: V.toList.drop (k + 1) := by
  rw [List.drop_eq_getElem_cons (by simpa using hk), Vector.getElem_toList]

/-- What the tick of byte `k` of a collection leaves (R131). -/
def State.collected (s : State) (p : Ports) (k : Nat) (b : Byte) (hk : k < 25) : State :=
  { s with F := s.F.set k b, idx := s.idx + 1#5, ports := rxEdge p b, events := [], now := s.now + 1#32 }

theorem clockEdge_collect {p : Ports} {s : State} {k : Nat} (b : Byte) (hp : p.rst = false) (hc : s.cp = .frame)
    (hi : s.idx.toNat = k) (hk : k < 24) (hs : s.ports.rst = false) :
    clockEdge (rxEdge p b) s = .next (s.collected p k b (by omega)) := by
  obtain rfl := hi
  rw [clockEdge_eq_tick (p := rxEdge p b) hp hs]
  exact execTick_collect_byte (s := { s with ports := rxEdge p b }) hc hk rfl

/-- From a collection that holds the first `k` bytes of `V`, the other bytes with their gaps come down to the tick of the
25th. -/
theorem clockEdges_frameEdges {p : Ports} (hp : p.rst = false) (gap : Nat) (V : Vector Byte 25) (m : Nat) {k : Nat}
    (hk : k + m = 24) {s : State} (hc : s.cp = .frame) (hi : s.idx.toNat = k) (hs : s.ports.rst = false)
    (hF : ∀ j (_ : j < 25), j < k → s.F[j] = V[j]) :
    clockEdges (frameEdges gap p (V.toList.drop k)) s =
      execTick { s with
        F := V.set 24 s.F[24], idx := 24#5, now := s.now + BitVec.ofNat 32 (m * (gap + 1)), ports := rxEdge p V[24],
        events := [] } := by
  induction m generalizing k s with
  | zero =>
    obtain rfl : k = 24 := hk
    have hlast : frameEdges gap p (V.toList.drop 24) = [rxEdge p V[24]] := by
      rw [drop_bytes_cons V (by decide), List.drop_of_length_le (by simp)]
      rfl
    have hbuf : V.set 24 s.F[24] = s.F := by
      refine Vector.ext fun j hj => ?_
      rw [Vector.getElem_set]
      split
      · simp_all
      · exact (hF j hj (by omega)).symm
    have hidx : s.idx = 24#5 := BitVec.eq_of_toNat_eq hi
    rw [hlast, clockEdges_cons, clockEdge_eq_tick (p := rxEdge p V[24]) hp hs, hbuf, ← hidx, Nat.zero_mul]
    simp only [BitVec.add_zero]
    exact andThen_next_right _
  | succ m ih =>
    have hnext : V.toList.drop (k + 1) = V[k + 1] :: V.toList.drop (k + 2) := drop_bytes_cons V (by omega)
    obtain ⟨ps, hps⟩ := frameEdges_cons_eq gap p V[k + 1] (V.toList.drop (k + 2))
    have hidx : (s.idx + 1#5).toNat = k + 1 := by bv_omega
    have hfull : s.idx + 1#5 ≠ 25#5 := by bv_omega
    have hF' : ∀ j (_ : j < 25), j < k + 1 → (s.F.set k V[k])[j] = V[j] := by
      intro j hj hlt
      rw [Vector.getElem_set]
      split
      · simp_all
      · exact hF j hj (by omega)
    have hlast : (s.F.set k V[k])[24] = s.F[24] := by rw [Vector.getElem_set, if_neg (by omega)]
    have hnow : s.now + 1#32 + BitVec.ofNat 32 gap + BitVec.ofNat 32 (m * (gap + 1)) =
        s.now + BitVec.ofNat 32 ((m + 1) * (gap + 1)) := by
      simp only [BitVec.add_assoc, ← BitVec.ofNat_add]
      congr 2
      ring
    calc clockEdges (frameEdges gap p (V.toList.drop k)) s
        = clockEdges (List.replicate gap (idleEdge p) ++ frameEdges gap p (V.toList.drop (k + 1)))
            (s.collected p k V[k] (by omega)) := by
          rw [drop_bytes_cons V (by omega), hnext, frameEdges_cons_cons, clockEdges_cons,
            clockEdge_collect V[k] hp hc hi (by omega) hs, andThen_next]
      _ = clockEdges (frameEdges gap p (V.toList.drop (k + 1)))
            { s.collected p k V[k] (by omega) with now := s.now + 1#32 + BitVec.ofNat 32 gap } := by
          rw [hnext, hps]
          exact clockEdges_gap (q := rxEdge p V[k + 1]) (s := s.collected p k V[k] (by omega)) hp hp ps gap hc hfull hp
      _ = _ := by
          rw [ih (by omega) (s := { s.collected p k V[k] (by omega) with now := s.now + 1#32 + BitVec.ofNat 32 gap })
            hc hidx hp hF']
          simp only [State.collected, hlast, hnow]

/-- Settles O46: the first byte of a collection is byte 0, and byte 24 is the trailer. -/
theorem frameDeliversItsBytes : Obligations.FrameDeliversItsBytes := by
  unfold Obligations.FrameDeliversItsBytes
  intro gap f s hc hi hs
  have htrailer := packFrame_trailer f
  calc execFrame gap f s
      = clockEdges (frameEdges gap s.ports ((packFrame f).toList.drop 0)) s := rfl
    _ = _ := clockEdges_frameEdges hs gap (packFrame f) 24 rfl hc (by rw [hi]; rfl) hs (by simp)
    _ = _ := by rw [htrailer]; rfl

end Sys2Proof.Machine

/-! ### The tick that completes a frame in a mix cycle (R112's example) -/

namespace Sys2Proof.Machine

theorem bookByte_lastByte {s : State} (h : s.AtLastByte) :
    bookByte { s with events := [] } = .next { s with F := s.group, idx := 25#5, events := [] } := by
  obtain ⟨hc, hi, hv⟩ := h
  have hlt : s.idx.toNat < 25 := by rw [hi]; decide
  have hset : s.F.set s.idx.toNat s.ports.rxData hlt = s.group := by simp only [State.group, hi]; rfl
  have hidx : s.idx + 1#5 = 25#5 := by rw [hi]; rfl
  rw [bookByte, if_pos hv, if_pos hc, ← hset, ← hidx]
  exact execRxAccept_of_lt (s := { s with events := [] }) _ hlt

/-- A collection that is complete with the right markers, the trigger off, no session and good ranges: FRAME_DONE, the three
operations of CYCLE, MIX_OK, and the wait for slot 1. -/
theorem chain_goodFrame {s : State} (n : Nat) (hc : s.cp = .frame) (hi : s.idx = 25#5) (hm : MarkersRight s.F)
    (ht : s.ports.calTrig = false) (hs : s.calState = .idle) (hr : s.RangesGood) :
    chain (n + 4) s = .next { s with
      T := s.now, CH := decodedChannels s.par.chSlot s.F, failsafeOut := failsafeBit s.F,
      PW := State.mixedWidths { s with CH := decodedChannels s.par.chSlot s.F }, dl := s.now + 1000#32, cp := .wait1 } := by
  have hmix : (if s.ports.calTrig || s.gCal then ControlPoint.cal else .mix) = .mix := by simp [ht, State.gCal, hs]
  calc chain (n + 4) s
      = chain (n + 3) { s with T := s.now, cp := .cycle } := chain_frameDone (n + 3) hc hi ((markersGood_iff s).mpr hm)
    _ = chain (n + 2) { s with
          T := s.now, CH := decodedChannels s.par.chSlot s.F, failsafeOut := failsafeBit s.F, cp := .mix } := by
        rw [← hmix]
        exact chain_cycle (n + 2) rfl
    _ = chain (n + 1) { s with
          T := s.now, CH := decodedChannels s.par.chSlot s.F, failsafeOut := failsafeBit s.F,
          PW := State.mixedWidths { s with CH := decodedChannels s.par.chSlot s.F }, dl := s.now + 1000#32,
          cp := .wait1 } := chain_mixOk_one (n + 1) rfl ((gRange_iff s).mpr hr)
    _ = _ := chain_stall n rfl (reached_ahead (by decide) (by decide))

/-- R139, R112: a good frame is decoded, mixed and waits for slot 1 in the one tick. -/
theorem execTick_goodFrame {s : State} (h : s.AtLastByte) (hm : MarkersRight s.group) (ht : s.ports.calTrig = false)
    (hs : s.calState = .idle) (hr : s.RangesGood) :
    execTick s = .next { s.decoded with
      idx := 25#5, PW := s.decoded.mixedWidths, dl := s.now + 1000#32, cp := .wait1, events := [] } := by
  have hrun := chain_goodFrame (s := { s with F := s.group, idx := 25#5, events := [] }) 8 h.collecting rfl hm ht hs hr
  rw [execTick_go (by simp [h.collecting, isReserved]), bookByte_lastByte h, andThen_next, execRun, chainFuel, hrun,
    andThen_next]
  rfl

/-- The packed bytes with their last one received after the others. -/
theorem packFrame_set_trailer (f : WireFrame) (b : Byte) : ((packFrame f).set 24 b).set 24 f.trailer = packFrame f := by
  refine Vector.ext fun j hj => ?_
  simp only [Vector.getElem_set]
  split
  · subst_vars
    exact (packFrame_trailer f).symm
  · rfl

theorem decodedChannels_packFrame (m : SlotMap) (f : WireFrame) :
    decodedChannels m (packFrame f) = PerChannel.of (fun c => f.slots[m.get c]) :=
  congrArg PerChannel.of (funext fun c => slotOf_packFrame f (m.get c).val (lt_trans (m.get c).isLt (by decide)))

/-- The state in which FRAME's last byte arrives (O46). -/
def State.beforeTrailer (s : State) (gap : Nat) (f : WireFrame) : State :=
  { s with
    F := (packFrame f).set 24 s.F[24]
    idx := 24#5
    now := s.now + BitVec.ofNat 32 (24 * (gap + 1))
    ports := { s.ports with rxValid := true, rxData := f.trailer }
    events := [] }

theorem beforeTrailer_group (s : State) (gap : Nat) (f : WireFrame) : (s.beforeTrailer gap f).group = packFrame f :=
  packFrame_set_trailer f s.F[24]

/-- The last byte decodes the frame's own fields. -/
theorem beforeTrailer_decoded (s : State) (gap : Nat) (f : WireFrame) :
    (s.beforeTrailer gap f).decoded = { s.beforeTrailer gap f with
      F := packFrame f
      T := s.now + BitVec.ofNat 32 (24 * (gap + 1))
      CH := PerChannel.of (fun c => f.slots[s.par.chSlot.get c])
      failsafeOut := f.flags.getLsbD 3
      now := s.now + BitVec.ofNat 32 (24 * (gap + 1) + 1) } := by
  have hflags : (s.beforeTrailer gap f).group[23] = f.flags := by
    simp only [beforeTrailer_group, packFrame_flags]
  rw [State.decoded, hflags, beforeTrailer_group, decodedChannels_packFrame, BitVec.ofNat_add, ← BitVec.add_assoc]
  rfl

/-- Settles O47: FRAME is the tick of its last byte (O46), and that completes a good frame. -/
theorem wellFormedFrameIsMixed : Obligations.WellFormedFrameIsMixed := by
  unfold Obligations.WellFormedFrameIsMixed
  intro gap f s hf hc hi hs ht hcal hr
  have hmarkers : MarkersRight (s.beforeTrailer gap f).group := by
    rw [beforeTrailer_group]
    exact markersRight_packFrame hf
  have htick := execTick_goodFrame (s := s.beforeTrailer gap f) ⟨hc, rfl, rfl⟩ hmarkers ht hcal hr
  have hranges : (s.beforeTrailer gap f).decoded.RangesGood := hr
  have hdl : (s.beforeTrailer gap f).now + 1000#32 = s.now + BitVec.ofNat 32 (24 * (gap + 1) + 1000) := by
    rw [BitVec.ofNat_add, ← BitVec.add_assoc]
    rfl
  refine ⟨_, (frameDeliversItsBytes gap f s hc hi hs).trans htick, ?_, hranges.mixedWidths_eq_integer⟩
  rw [beforeTrailer_decoded, hdl]
  rfl

end Sys2Proof.Machine

/-! ### The chain of R112 stops (R112, R119)

`ChainRuns` is deterministic, and a chain with more fuel than the operations of the run answers the run's last state. A bound on the
operations from each control point on shows that every state has a run. -/

namespace Sys2Proof.Machine

/-! #### The relation and the function -/

theorem performAll_eq_execAll {is : List Instr} (h : ∀ i ∈ is, i ∈ operationMap.map Row.instr) (s : State) :
    performAll is s = execAll is s := by
  induction is generalizing s with
  | nil => rfl
  | cons i is ih =>
    obtain ⟨hi, his⟩ := List.forall_mem_cons.mp h
    rw [performAll, execAll, perform_eq_of_mem hi]
    exact congrArg (andThen (exec i s)) (funext (ih his))

theorem selectedOps_ne_nil (s : State) : s.selectedOps ≠ [] := by
  rw [selectedOps_eq]
  cases s.cp <;> simp only [listing] <;> (repeat' split) <;> simp

/-- A chain with more fuel than the operations of its run ends where the run does. -/
theorem ChainRuns.chain_eq {s t : State} {is : List Instr} (h : ChainRuns s is t) {n : Nat} (hn : is.length < n) :
    chain n s = .next t := by
  induction h generalizing n with
  | stop s i hi hs =>
    obtain ⟨m, rfl⟩ := Nat.exists_eq_add_of_lt hn
    exact chain_stop _ hs hi
  | go s u t is hs hu _ ih =>
    have hpos := List.length_pos_of_ne_nil (selectedOps_ne_nil s)
    rw [List.length_append] at hn
    obtain ⟨m, rfl⟩ : ∃ m, n = m + 1 := ⟨n - 1, by omega⟩
    rw [chain_go m hs, performAll_eq_execAll (fun i hi => mem_operationMap_of_selected hi), hu, andThen_next]
    exact ih (by omega)

/-- The chain is deterministic. -/
theorem ChainRuns.unique {s t t' : State} {is is' : List Instr} (h : ChainRuns s is t) (h' : ChainRuns s is' t') :
    is = is' ∧ t = t' := by
  induction h generalizing is' t' with
  | stop s i hi hs =>
    cases h' with
    | stop => exact ⟨rfl, rfl⟩
    | go _ u _ js hgo _ _ => simp [hgo i (by simp [hs])] at hi
  | go s u t is hs hu _ ih =>
    cases h' with
    | stop _ i hi hstop => simp [hs i (by simp [hstop])] at hi
    | go _ v _ js _ hv hrun =>
      obtain rfl : u = v := Host.Outcome.next.inj (hu.symm.trans hv)
      obtain ⟨rfl, rfl⟩ := ih hrun
      exact ⟨rfl, rfl⟩

/-! #### The clock stands still within a chain -/

theorem exec_single_now {i : Instr} {s t : State} (hi : isSingle i = true) (h : exec i s = .next t) : t.now = s.now := by
  obtain ⟨-, hnow, -⟩ := onlyListedOperationsWrite i s t hi h
  exact hnow

theorem execAll_now {is : List Instr} (his : ∀ i ∈ is, isSingle i = true) {s t : State} (h : execAll is s = .next t) :
    t.now = s.now := by
  induction is generalizing s with
  | nil => rw [Host.Outcome.next.inj h]
  | cons i is ih =>
    obtain ⟨hi, hrest⟩ := List.forall_mem_cons.mp his
    obtain ⟨u, hu, ht⟩ := andThen_eq_next.mp h
    exact (ih hrest ht).trans (exec_single_now hi hu)

theorem ChainRuns.now_eq {s t : State} {is : List Instr} (h : ChainRuns s is t) : t.now = s.now := by
  induction h with
  | stop => rfl
  | go s u t is hs hu _ ih =>
    exact ih.trans (execAll_now (fun i hi => isSingle_of_mem_operationMap i (mem_operationMap_of_selected hi)) hu)

/-! #### At most so many operations from here on -/

/-- The chain of R112 stops at a waiting control point, after at most `k` operations. -/
def StopsWithin (k : Nat) (s : State) : Prop := ∃ is t, ChainRuns s is t ∧ is.length ≤ k ∧ isWaiting t.cp = true

theorem StopsWithin.mono {k m : Nat} {s : State} (h : StopsWithin k s) (hkm : k ≤ m) : StopsWithin m s := by
  obtain ⟨is, t, hrun, hlen, hwait⟩ := h
  exact ⟨is, t, hrun, hlen.trans hkm, hwait⟩

theorem stopsWithin_stall {s : State} (k : Nat) (hs : s.selectedOps = [.stall]) (hc : isWaiting s.cp = true) :
    StopsWithin k s :=
  ⟨[], s, .stop s .stall rfl hs, Nat.zero_le k, hc⟩

/-- The selected operations, and then the rest of the chain. -/
theorem StopsWithin.after {s u : State} {k : Nat} (hs : ∀ i ∈ s.selectedOps, isStop i = false)
    (h : execAll s.selectedOps s = .next u) (hu : StopsWithin k u) : StopsWithin (k + s.selectedOps.length) s := by
  obtain ⟨is, t, hrun, hlen, hwait⟩ := hu
  exact ⟨_, t, .go s u t is hs h hrun, by rw [List.length_append]; omega, hwait⟩

/-- One selected operation, and then the rest of the chain. -/
theorem StopsWithin.after_one {s u : State} {i : Instr} {k : Nat} (hs : s.selectedOps = [i]) (hi : isStop i = false)
    (h : exec i s = .next u) (hu : StopsWithin k u) : StopsWithin (k + 1) s := by
  have hall : execAll s.selectedOps s = .next u := by
    rw [hs, execAll, h]
    rfl
  simpa [hs] using StopsWithin.after (by simpa [hs] using hi) hall hu

/-! #### TOP and the waits -/

theorem selectedOps_top {s : State} (hc : s.cp = .top) : s.selectedOps =
    if s.stray then [.topCheck] else if s.synchronized then [.frameStart] else [.probeStart] := by
  rw [selectedOps_eq, hc]
  rfl

theorem selectedOps_probe {s : State} (hc : s.cp = .probe) : s.selectedOps =
    if reached s.now s.dl then (if s.stray then [.probeFail] else [.probeOk]) else [.stall] := by
  rw [selectedOps_eq, gReached_eq (by rw [hc]; rfl), hc]
  rfl

theorem selectedOps_frame_open {s : State} (hc : s.cp = .frame) (hi : s.idx ≠ 25#5) : s.selectedOps = [.stall] := by
  have hf : s.gFull = false := by rwa [← Bool.not_eq_true, gFull_iff]
  rw [selectedOps_eq, hf, hc]
  rfl

/-- A mix cycle after its mixing, or an acknowledgment (R117). -/
def inCycle (c : ControlPoint) : Prop := isScheduling c = true ∨ c = .ack

/-- The row that ends a wait of a cycle. -/
def endOfWait : ControlPoint → Instr
  | .wait1 => .pulse1On
  | .hold1 => .pulse1Off
  | .wait2 => .pulse2On
  | .hold2 => .pulse2Off
  | .ack => .ackEnd
  | _ => .stall

theorem inCycle_cases {c : ControlPoint} (h : inCycle c) :
    c = .wait1 ∨ c = .hold1 ∨ c = .wait2 ∨ c = .hold2 ∨ c = .ack := by
  revert h
  cases c <;> simp [inCycle, isScheduling]

theorem isStop_endOfWait {c : ControlPoint} (hc : inCycle c) : isStop (endOfWait c) = false := by
  rcases inCycle_cases hc with rfl | rfl | rfl | rfl | rfl <;> rfl

theorem isWaiting_of_inCycle {c : ControlPoint} (hc : inCycle c) : isWaiting c = true := by
  rcases inCycle_cases hc with rfl | rfl | rfl | rfl | rfl <;> rfl

theorem selectedOps_inCycle {s : State} (hc : inCycle s.cp) :
    s.selectedOps = if reached s.now s.dl then [endOfWait s.cp] else [.stall] := by
  rcases inCycle_cases hc with hc | hc | hc | hc | hc
  all_goals
    rw [selectedOps_eq, gReached_eq (by rw [hc]; rfl), hc]
    rfl

theorem stopsWithin_probeStart {s : State} (hc : s.cp = .top) (hs : s.stray = false) (hy : s.synchronized = false) :
    StopsWithin 1 s := by
  have hsel : s.selectedOps = [.probeStart] := by simp [selectedOps_top hc, hs, hy]
  refine .after_one hsel rfl rfl (stopsWithin_stall 0 ?_ rfl)
  have hr : reached s.now (s.now + Config.syncProbeUs) = false := reached_ahead (by decide) (by decide)
  rw [selectedOps_probe rfl]
  exact if_neg (ne_true_of_eq_false hr)

theorem stopsWithin_frameStart {s : State} (hc : s.cp = .top) (hs : s.stray = false) (hy : s.synchronized = true) :
    StopsWithin 1 s := by
  have hsel : s.selectedOps = [.frameStart] := by simp [selectedOps_top hc, hs, hy]
  exact .after_one hsel rfl rfl (stopsWithin_stall 0 (selectedOps_frame_open rfl (by simp)) rfl)

theorem stopsWithin_top {s : State} (hc : s.cp = .top) : StopsWithin 2 s := by
  cases hs : s.stray
  · cases hy : s.synchronized
    · exact (stopsWithin_probeStart hc hs hy).mono (by decide)
    · exact (stopsWithin_frameStart hc hs hy).mono (by decide)
  · have hsel : s.selectedOps = [.topCheck] := by simp [selectedOps_top hc, hs]
    exact .after_one hsel rfl rfl (stopsWithin_probeStart hc rfl rfl)

theorem stopsWithin_probe {s : State} (hc : s.cp = .probe) : StopsWithin 3 s := by
  have hsel := selectedOps_probe hc
  cases hr : reached s.now s.dl
  · exact stopsWithin_stall 3 (by simpa [hr] using hsel) (by rw [hc]; rfl)
  · cases hs : s.stray
    · exact .after_one (by simpa [hr, hs] using hsel) rfl rfl (stopsWithin_top rfl)
    · exact .after_one (by simpa [hr, hs] using hsel) rfl rfl (stopsWithin_top rfl)

/-- A wait of a cycle stops the chain, or goes on with the row that ends it. -/
theorem stopsWithin_wait {s u : State} {c : ControlPoint} {k : Nat} (hc : s.cp = c) (hin : inCycle c)
    (h : exec (endOfWait c) s = .next u) (hu : StopsWithin k u) : StopsWithin (k + 1) s := by
  subst hc
  have hsel := selectedOps_inCycle hin
  split at hsel
  · exact .after_one hsel (isStop_endOfWait hin) h hu
  · exact stopsWithin_stall _ hsel (isWaiting_of_inCycle hin)

theorem stopsWithin_ack {s : State} (hc : s.cp = .ack) : StopsWithin 3 s :=
  stopsWithin_wait hc (.inr rfl) rfl (stopsWithin_top rfl)

theorem stopsWithin_hold2 {s : State} (hc : s.cp = .hold2) : StopsWithin 3 s :=
  stopsWithin_wait hc (.inl rfl) rfl (stopsWithin_top rfl)

theorem stopsWithin_wait2 {s : State} (hc : s.cp = .wait2) : StopsWithin 4 s :=
  stopsWithin_wait hc (.inl rfl) rfl (stopsWithin_hold2 rfl)

theorem stopsWithin_hold1 {s : State} (hc : s.cp = .hold1) : StopsWithin 5 s :=
  stopsWithin_wait hc (.inl rfl) rfl (stopsWithin_wait2 rfl)

theorem stopsWithin_wait1 {s : State} (hc : s.cp = .wait1) : StopsWithin 6 s :=
  stopsWithin_wait hc (.inl rfl) rfl (stopsWithin_hold1 rfl)

/-! #### MIX and CAL -/

theorem stopsWithin_mixDegenerate {s : State} (hc : s.cp = .mix) (hg : s.gRange = false) : StopsWithin 3 s :=
  .after_one (by rw [selectedOps_eq, hc, hg]; rfl) rfl rfl (stopsWithin_top rfl)

theorem stopsWithin_mixOk {s : State} {k : Nat} (hc : s.cp = .mix) (hg : s.gRange = true)
    (hu : StopsWithin k { s with PW := s.mixedWidths, dl := s.T + 1000#32, cp := .wait1 }) : StopsWithin (k + 1) s :=
  .after_one (i := .mixOk) (by rw [selectedOps_eq, hc, hg]; rfl) rfl (execMixOk_of_range hg) hu

/-- From any state at MIX: the deadlines may all be reached at once. -/
theorem stopsWithin_mix {s : State} (hc : s.cp = .mix) : StopsWithin 7 s := by
  cases hg : s.gRange
  · exact (stopsWithin_mixDegenerate hc hg).mono (by decide)
  · exact stopsWithin_mixOk hc hg (stopsWithin_wait1 rfl)

/-- In the tick that completed the group, the first deadline is 1000 ticks ahead. -/
theorem stopsWithin_mix_now {s : State} (hc : s.cp = .mix) (hT : s.T = s.now) : StopsWithin 3 s := by
  cases hg : s.gRange
  · exact stopsWithin_mixDegenerate hc hg
  · have hr : reached s.now (s.T + 1000#32) = false := hT ▸ reached_ahead (by decide) (by decide)
    refine (stopsWithin_mixOk hc hg (stopsWithin_stall 0 ?_ rfl)).mono (by decide)
    rw [selectedOps_inCycle (.inl rfl)]
    exact if_neg (ne_true_of_eq_false hr)

theorem selectedOps_cal {s : State} (hc : s.cp = .cal) : s.selectedOps =
    if s.ports.calTrig then (if s.gCal then [.calExpand] else [.calEnter])
    else if s.gCal then [.calExit] else if s.gSpan then [.calCommit] else [.calReject] := by
  rw [selectedOps_eq, hc]
  rfl

theorem stopsWithin_calExpand {s : State} (hc : s.cp = .cal) (ht : s.ports.calTrig = true) (hg : s.gCal = true) :
    StopsWithin 3 s := by
  have hsel : s.selectedOps = [.calExpand] := by simp [selectedOps_cal hc, ht, hg]
  exact .after_one hsel rfl rfl (stopsWithin_top rfl)

/-- The closed session: CAL_COMMIT and the acknowledgment, or CAL_REJECT. -/
theorem stopsWithin_calClosed {s : State} (hc : s.cp = .cal) (ht : s.ports.calTrig = false) (hg : s.gCal = false) :
    StopsWithin 4 s := by
  have hsel := selectedOps_cal hc
  cases hspan : s.gSpan
  · have hu : StopsWithin 3 s := .after_one (by simpa [ht, hg, hspan] using hsel) rfl rfl (stopsWithin_top rfl)
    exact hu.mono (by decide)
  · exact .after_one (by simpa [ht, hg, hspan] using hsel) rfl rfl (stopsWithin_ack rfl)

theorem stopsWithin_cal {s : State} (hc : s.cp = .cal) : StopsWithin 5 s := by
  have hsel := selectedOps_cal hc
  cases ht : s.ports.calTrig <;> cases hg : s.gCal
  case false.false => exact (stopsWithin_calClosed hc ht hg).mono (by decide)
  case false.true =>
    refine .after_one (by simpa [ht, hg] using hsel) rfl rfl ?_
    exact stopsWithin_calClosed hc ht rfl
  case true.false =>
    refine StopsWithin.mono (.after_one (by simpa [ht, hg] using hsel) rfl rfl ?_) (by decide : 3 + 1 ≤ 5)
    exact stopsWithin_calExpand hc ht rfl
  case true.true => exact (stopsWithin_calExpand hc ht hg).mono (by decide)

/-! #### CYCLE and FRAME -/

theorem selectedOps_cycle {s : State} (hc : s.cp = .cycle) : s.selectedOps = [.decode, .decodeFs, .branch] := by
  rw [selectedOps_eq, hc]
  rfl

/-- CYCLE takes three operations, and then MIX or CAL. -/
theorem stopsWithin_cycle_of_mix {s : State} {k : Nat} (hc : s.cp = .cycle) (hk : 5 ≤ k)
    (hmix : ∀ u : State, u.cp = .mix → u.T = s.T → u.now = s.now → StopsWithin k u) : StopsWithin (k + 3) s := by
  have hsel := selectedOps_cycle hc
  have hrest : StopsWithin k { s with
      CH := decodedChannels s.par.chSlot s.F, failsafeOut := failsafeBit s.F,
      cp := if s.ports.calTrig || s.gCal then .cal else .mix } := by
    split
    · exact (stopsWithin_cal rfl).mono hk
    · exact hmix _ rfl rfl rfl
  have hgo : ∀ i ∈ s.selectedOps, isStop i = false := by simp [hsel, isStop]
  simpa [hsel] using StopsWithin.after hgo (by rw [hsel]; rfl) hrest

theorem stopsWithin_cycle {s : State} (hc : s.cp = .cycle) : StopsWithin 10 s :=
  stopsWithin_cycle_of_mix hc (by decide) fun _ hu _ _ => stopsWithin_mix hu

theorem stopsWithin_cycle_now {s : State} (hc : s.cp = .cycle) (hT : s.T = s.now) : StopsWithin 8 s :=
  stopsWithin_cycle_of_mix hc (by decide) fun _ hu huT hunow =>
    (stopsWithin_mix_now hu (by rw [huT, hunow, hT])).mono (by decide)

/-- FRAME_DONE sets the timestamp, so no pulse begins in its tick. -/
theorem stopsWithin_frame {s : State} (hc : s.cp = .frame) : StopsWithin 9 s := by
  by_cases hi : s.idx = 25#5
  · have hf := (gFull_iff s).2 hi
    cases hm : s.gMarker
    · exact (StopsWithin.after_one (by rw [selectedOps_eq, hf, hm, hc]; rfl) rfl rfl (stopsWithin_top rfl)).mono
        (by decide)
    · exact .after_one (by rw [selectedOps_eq, hf, hm, hc]; rfl) rfl rfl (stopsWithin_cycle_now rfl rfl)
  · exact stopsWithin_stall 9 (selectedOps_frame_open hc hi) (by rw [hc]; rfl)

/-! #### Every chain -/

/-- R119, at the control points that are not reserved. -/
theorem stopsWithin_ten {s : State} (h : isReserved s.cp = false) : StopsWithin 10 s := by
  cases hc : s.cp
  case top => exact (stopsWithin_top hc).mono (by decide)
  case probe => exact (stopsWithin_probe hc).mono (by decide)
  case frame => exact (stopsWithin_frame hc).mono (by decide)
  case cycle => exact stopsWithin_cycle hc
  case cal => exact (stopsWithin_cal hc).mono (by decide)
  case mix => exact (stopsWithin_mix hc).mono (by decide)
  case ack => exact (stopsWithin_ack hc).mono (by decide)
  case wait1 => exact (stopsWithin_wait1 hc).mono (by decide)
  case hold1 => exact (stopsWithin_hold1 hc).mono (by decide)
  case wait2 => exact (stopsWithin_wait2 hc).mono (by decide)
  case hold2 => exact (stopsWithin_hold2 hc).mono (by decide)
  all_goals simp [hc, isReserved] at h

theorem exists_chainRuns (s : State) : ∃ is t, ChainRuns s is t ∧ is.length ≤ 10 := by
  cases hc : isReserved s.cp
  · obtain ⟨is, t, hrun, hlen, -⟩ := stopsWithin_ten hc
    exact ⟨is, t, hrun, hlen⟩
  · exact ⟨[], s, chainRuns_reserved hc, Nat.zero_le 10⟩

/-- Settles O3: every state has a run of at most 10 operations, and RUN's fuel is more than that. -/
theorem runPerformsTheChain : Obligations.RunPerformsTheChain := by
  unfold Obligations.RunPerformsTheChain
  intro s
  obtain ⟨is, t, hrun, hlen⟩ := exists_chainRuns s
  exact ⟨is, t, hrun, hrun.chain_eq (n := chainFuel) (Nat.lt_of_le_of_lt hlen (by decide))⟩

/-- Settles O4: the run of at most 10 operations is the only one. -/
theorem chainPerformsAtMostTenOperations : Obligations.ChainPerformsAtMostTenOperations := by
  unfold Obligations.ChainPerformsAtMostTenOperations
  intro s t is h
  obtain ⟨is', t', hrun, hlen⟩ := exists_chainRuns s
  obtain ⟨rfl, -⟩ := h.unique hrun
  exact hlen

end Sys2Proof.Machine

/-! ### The tick as a whole, and the transfers of control (R111, R113, R116, R118) -/

namespace Sys2Proof.Machine

/-- Settles O2: an empty trace is the one a tick begins with. -/
theorem tickBooksRunsThenAdvances : Obligations.TickBooksRunsThenAdvances := by
  unfold Obligations.TickBooksRunsThenAdvances
  intro s he hc
  have hs : { s with events := [] } = s := by rw [← he]
  have htick := execTick_go hc
  rw [hs] at htick
  exact htick

/-- Settles O17: the trigger or an open session is what `||` of the two guard bits says. -/
theorem branchStallAndDegenerateRows : Obligations.BranchStallAndDegenerateRows := by
  unfold Obligations.BranchStallAndDegenerateRows
  intro s
  have hguard : (s.ports.calTrig || s.gCal) = true ↔ s.ports.calTrig = true ∨ s.calState = .calibrating := by
    rw [Bool.or_eq_true, gCal_iff]
  exact ⟨congrArg (fun c => (.next (s.goto c) : Result)) (if_congr hguard rfl rfl), rfl, rfl⟩

/-- Settles O40: the tick of a good frame, whose widths are those of the integer form. -/
theorem goodFrameStartsMixCycle : Obligations.GoodFrameStartsMixCycle := by
  unfold Obligations.GoodFrameStartsMixCycle
  intro s h hm ht hs hr
  have hranges : s.decoded.RangesGood := hr
  exact ⟨_, execTick_goodFrame h hm ht hs hr, rfl, hranges.mixedWidths_eq_integer⟩

/-! #### Every tick completes -/

/-- Part 1 of a tick that delivers no 26th byte to a collection. -/
theorem bookByte_completes {s : State} (h : ¬ (s.ports.rxValid = true ∧ s.cp = .frame ∧ 25 ≤ s.idx.toNat)) :
    ∃ u, bookByte s = .next u ∧ u.cp = s.cp ∧ u.now = s.now := by
  unfold bookByte
  split
  · split
    · have hi : s.idx.toNat < 25 := by
        by_contra hge
        exact h ⟨‹_›, ‹_›, by omega⟩
      exact ⟨_, execRxAccept_of_lt _ hi, rfl, rfl⟩
    · exact ⟨_, rfl, rfl, rfl⟩
  · exact ⟨s, rfl, rfl, rfl⟩

/-- RUN stops at a waiting control point and leaves the clock as it is. -/
theorem execRun_completes {s : State} (h : isReserved s.cp = false) :
    ∃ t, execRun s = .next t ∧ t.now = s.now ∧ isWaiting t.cp = true := by
  obtain ⟨is, t, hrun, hlen, hwait⟩ := stopsWithin_ten h
  exact ⟨t, hrun.chain_eq (n := chainFuel) (Nat.lt_of_le_of_lt hlen (by decide)), hrun.now_eq, hwait⟩

theorem execTick_completes {s : State} (hc : isReserved s.cp = false)
    (h : ¬ (s.ports.rxValid = true ∧ s.cp = .frame ∧ 25 ≤ s.idx.toNat)) :
    ∃ t, execTick s = .next t ∧ t.now = s.now + 1#32 ∧ isWaiting t.cp = true := by
  obtain ⟨u, hu, hcp, hunow⟩ := bookByte_completes (s := { s with events := [] }) h
  obtain ⟨v, hv, hvnow, hwait⟩ := execRun_completes (s := u) (hcp ▸ hc)
  refine ⟨v.advanceClock, ?_, ?_, hwait⟩
  · rw [execTick_go hc, hu, andThen_next, hv, andThen_next]
  · rw [State.advanceClock_now, hvnow, hunow]

/-- Settles O19: a tick at a reserved code is frozen, every other one completes; the trace is emptied first. -/
theorem tickCompletesAtWait : Obligations.TickCompletesAtWait := by
  unfold Obligations.TickCompletesAtWait
  refine ⟨fun s h => ?_, fun s e => execTick_events e s⟩
  cases hc : isReserved s.cp
  · obtain ⟨t, ht, hnow, hwait⟩ := execTick_completes hc h
    exact ⟨t, ht, by simp [hnow, hwait]⟩
  · exact ⟨_, execTick_reserved hc, by simp⟩

/-! #### Control transfers -/

/-- Where a row of the operation map takes `cp` from `c`; BRANCH to CAL where `toCal` says so (R118). -/
def rowTarget (c : ControlPoint) (toCal : Bool) : Instr → ControlPoint
  | .probeStart => .probe
  | .frameStart => .frame
  | .probeOk | .probeFail | .frameBad | .calExpand | .calReject | .ackEnd | .mixDegenerate | .pulse2Off => .top
  | .frameDone => .cycle
  | .branch => if toCal then .cal else .mix
  | .calCommit => .ack
  | .mixOk => .wait1
  | .pulse1On => .hold1
  | .pulse1Off => .wait2
  | .pulse2On => .hold2
  | _ => c

theorem exec_row_cp {s t : State} {i : Instr} (hi : i ∈ operationMap.map Row.instr) (h : exec i s = .next t) :
    t.cp = rowTarget s.cp (s.ports.calTrig || s.gCal) i := by
  cases i
  case mixOk => rw [execMixOk_eq_next h]; rfl
  case frame | nvByte | desync | nvLoad | nvStore | nvFormat | norm | thrMix | thrRedist | elvMix | toPw | reset | tick |
      run | rxAccept | rxStray => simp [operationMap] at hi
  all_goals
    obtain rfl := Host.Outcome.next.inj h
    rfl

/-- The rows that R112's listing selects at a control point and where they lead are in R118's list, but for the reserved rows. -/
theorem listing_mem_transfers (c : ControlPoint) (b8 b7 b6 b5 b4 b3 b2 b1 b0 toCal : Bool) :
    ∀ i ∈ listing c b8 b7 b6 b5 b4 b3 b2 b1 b0,
      (c, i, rowTarget c toCal i) ∈ transfers ∨ i = .reservedCp7 ∨ i = .reservedCp12To15 := by
  cases c <;> simp only [listing]
  all_goals
    repeat' split
    all_goals
      revert toCal
      decide

theorem exec_reserved_row {s t : State} {i : Instr} (hi : i = .reservedCp7 ∨ i = .reservedCp12To15)
    (h : exec i s = .next t) : t = s := by
  rcases hi with rfl | rfl <;> exact (Host.Outcome.next.inj h).symm

theorem exec_other_cp {s t : State} {i : Instr} (hi : isSingle i = true) (hn : i ∉ operationMap.map Row.instr)
    (h : exec i s = .next t) : t.cp = s.cp := by
  cases i
  case run | tick | frame | reset => cases hi
  case rxAccept b =>
    obtain ⟨hlt, rfl⟩ := execRxAccept_eq_next h
    rfl
  case nvByte a v => rw [execNvByte_eq_next h, State.setBound_cp]
  case norm =>
    obtain ⟨w, rfl⟩ := execNorm_eq_next h
    rfl
  case desync | nvLoad | nvStore | nvFormat | thrMix | thrRedist | elvMix | toPw | rxStray =>
    obtain rfl := Host.Outcome.next.inj h
    rfl
  all_goals exact absurd (by decide) hn

/-- Settles O18: the listing's rows by where they lead, RESET, and the operations that no row has. -/
theorem controlTransfersAreListed : Obligations.ControlTransfersAreListed := by
  unfold Obligations.ControlTransfersAreListed
  refine ⟨fun s t i hi h => ?_, fun s t f h => ?_, fun s t i => exec_other_cp⟩
  · have htarget := exec_row_cp (mem_operationMap_of_selected hi) h
    rw [selectedOps_eq] at hi
    rcases listing_mem_transfers _ _ _ _ _ _ _ _ _ _ (s.ports.calTrig || s.gCal) i hi with hlist | hres
    · exact .inl (htarget ▸ hlist)
    · exact .inr ⟨hres, exec_reserved_row hres h⟩
  · rw [← Host.Outcome.next.inj h]

end Sys2Proof.Machine

/-! ### The inputs of a cycle in progress (R117)

The rows of a wait read neither the ports nor `stray`, so the chain takes the same path under any inputs until it comes to TOP, where
`stray` is read and the ports are not. -/

namespace Sys2Proof.Machine

/-- The state under other inputs: other port levels, and another value of the flag that a byte sets. -/
def State.withInputs (s : State) (p : Ports) (a : Bool) : State := { s with ports := p, stray := a }

/-- Where the chain ends under given inputs when it comes to `s`, a wait that stays or TOP. -/
def State.endUnder (s : State) (p : Ports) (a : Bool) : State :=
  if s.cp = .top then (s.withInputs p a).settleTop else s.withInputs p a

/-- The chain from `s` comes to the same state under all inputs, in the cycle or at TOP. -/
def SameUnderInputs (n : Nat) (s : State) : Prop :=
  ∃ v : State, (inCycle v.cp ∨ v.cp = .top) ∧ ∀ p a, chain n (s.withInputs p a) = .next (v.endUnder p a)

theorem endUnder_inCycle {s : State} (h : inCycle s.cp) (p : Ports) (a : Bool) : s.endUnder p a = s.withInputs p a := by
  refine if_neg fun hc => ?_
  simp [inCycle, hc, isScheduling] at h

theorem exec_endOfWait_withInputs {s u : State} {c : ControlPoint} (hc : inCycle c)
    (h : exec (endOfWait c) s = .next u) (p : Ports) (a : Bool) :
    exec (endOfWait c) (s.withInputs p a) = .next (u.withInputs p a) := by
  rcases inCycle_cases hc with rfl | rfl | rfl | rfl | rfl
  all_goals
    obtain rfl := Host.Outcome.next.inj h
    rfl

theorem sameUnderInputs_top {s : State} (n : Nat) (hc : s.cp = .top) : SameUnderInputs (n + 3) s := by
  refine ⟨s, .inr hc, fun p a => ?_⟩
  rw [State.endUnder, if_pos hc]
  exact chain_top n hc

/-- A wait stays under all inputs, or ends under all of them. -/
theorem sameUnderInputs_wait {s u : State} {c : ControlPoint} {n : Nat} (hc : s.cp = c) (hin : inCycle c)
    (h : exec (endOfWait c) s = .next u) (hu : SameUnderInputs n u) : SameUnderInputs (n + 1) s := by
  subst hc
  have hsel (p : Ports) (a : Bool) := selectedOps_inCycle (s := s.withInputs p a) hin
  cases hr : reached s.now s.dl
  · refine ⟨s, .inl hin, fun p a => ?_⟩
    rw [endUnder_inCycle hin]
    exact chain_stop n ((hsel p a).trans (if_neg (ne_true_of_eq_false hr))) rfl
  · obtain ⟨v, hv, hchain⟩ := hu
    refine ⟨v, hv, fun p a => ?_⟩
    rw [chain_one n ((hsel p a).trans (if_pos hr)) (isStop_endOfWait hin)]
    exact (congrArg (andThen · (chain n)) (exec_endOfWait_withInputs hin h p a)).trans (hchain p a)

theorem sameUnderInputs_ack {s : State} (n : Nat) (hc : s.cp = .ack) : SameUnderInputs (n + 4) s :=
  sameUnderInputs_wait hc (.inr rfl) rfl (sameUnderInputs_top n rfl)

theorem sameUnderInputs_hold2 {s : State} (n : Nat) (hc : s.cp = .hold2) : SameUnderInputs (n + 4) s :=
  sameUnderInputs_wait hc (.inl rfl) rfl (sameUnderInputs_top n rfl)

theorem sameUnderInputs_wait2 {s : State} (n : Nat) (hc : s.cp = .wait2) : SameUnderInputs (n + 5) s :=
  sameUnderInputs_wait hc (.inl rfl) rfl (sameUnderInputs_hold2 n rfl)

theorem sameUnderInputs_hold1 {s : State} (n : Nat) (hc : s.cp = .hold1) : SameUnderInputs (n + 6) s :=
  sameUnderInputs_wait hc (.inl rfl) rfl (sameUnderInputs_wait2 n rfl)

theorem sameUnderInputs_wait1 {s : State} (n : Nat) (hc : s.cp = .wait1) : SameUnderInputs (n + 7) s :=
  sameUnderInputs_wait hc (.inl rfl) rfl (sameUnderInputs_hold1 n rfl)

theorem sameUnderInputs_run {s : State} (h : inCycle s.cp) : SameUnderInputs chainFuel s := by
  rcases inCycle_cases h with hc | hc | hc | hc | hc
  · exact sameUnderInputs_wait1 5 hc
  · exact sameUnderInputs_hold1 6 hc
  · exact sameUnderInputs_wait2 7 hc
  · exact sameUnderInputs_hold2 8 hc
  · exact sameUnderInputs_ack 8 hc

/-! #### The tick -/

/-- Outside a collection a byte sets `stray` and does nothing else (R132). -/
theorem bookByte_stray {s : State} (hc : s.cp ≠ .frame) :
    bookByte s = .next { s with stray := s.stray || s.ports.rxValid } := by
  unfold bookByte
  cases hv : s.ports.rxValid
  · simp
  · simp [hc, execRxStray]

theorem execTick_withInputs {s : State} (h : inCycle s.cp) :
    ∃ v : State, (inCycle v.cp ∨ v.cp = .top) ∧
      ∀ p a, execTick (s.withInputs p a) = .next (v.endUnder p (a || p.rxValid)).advanceClock := by
  obtain ⟨v, hv, hchain⟩ := sameUnderInputs_run (s := { s with events := [] }) h
  have hframe : s.cp ≠ .frame := fun hc => by simp [inCycle, hc, isScheduling] at h
  have hres : isReserved s.cp = false := by
    rcases inCycle_cases h with hc | hc | hc | hc | hc <;> rw [hc] <;> rfl
  refine ⟨v, hv, fun p a => ?_⟩
  have hbook := bookByte_stray (s := { s.withInputs p a with events := [] }) hframe
  rw [execTick_go (s := s.withInputs p a) hres, hbook, andThen_next]
  exact congrArg (andThen · fun w => .next w.advanceClock) (hchain p (a || p.rxValid))

/-- Coming to TOP, the chain ends outside the cycle (R114). -/
theorem not_inCycle_settleTop (s : State) : ¬ inCycle s.settleTop.cp := by
  unfold State.settleTop
  split
  · simp [inCycle, isScheduling]
  · split <;> simp [inCycle, isScheduling]

/-- With the same `stray` the ports are not read. -/
theorem endUnder_ports (s : State) (p q : Ports) (a : Bool) : s.endUnder p a = { s.endUnder q a with ports := p } := by
  unfold State.endUnder
  split
  · unfold State.settleTop
    cases a
    · cases hy : s.synchronized <;> simp [State.withInputs, hy]
    · rfl
  · rfl

/-- Settles O21: both ticks end where the chain comes under all inputs, a wait of the cycle or what follows TOP. -/
theorem inputsCannotAlterCycle : Obligations.InputsCannotAlterCycle := by
  unfold Obligations.InputsCannotAlterCycle
  intro s p q a b h
  obtain ⟨v, hv, htick⟩ := execTick_withInputs h
  refine ⟨_, _, htick p a, htick q b, fun hu => ?_, fun hab => ?_⟩
  · rcases hv with hin | htop
    · rw [endUnder_inCycle hin, endUnder_inCycle hin]
      exact ⟨rfl, rfl⟩
    · rw [State.advanceClock_cp, State.endUnder, if_pos htop] at hu
      exact absurd hu (not_inCycle_settleTop _)
  · rw [hab, endUnder_ports v p q]
    rfl

end Sys2Proof.Machine

/-! ### Waiting for the deadline (R24, R26, R113, R132)

Until its deadline a waiting control point books the bytes that arrive as stray and lets the clock run. -/

namespace Sys2Proof.Machine

/-- One of the coming `n` edges of the script delivers a byte. -/
def State.byteWithin (s : State) (n : Nat) : Bool := (s.script.take n).any Ports.rxValid

@[simp] theorem byteWithin_zero (s : State) : s.byteWithin 0 = false := by simp [State.byteWithin]

theorem byteWithin_add {s t : State} {n : Nat} (m : Nat) (h : t.script = s.script.drop n) :
    s.byteWithin (n + m) = (s.byteWithin n || t.byteWithin m) := by
  rw [State.byteWithin, State.byteWithin, State.byteWithin, h, List.take_add, List.any_append]

/-- After the end of the script no byte arrives (log 4). -/
theorem nextPorts_rxValid (s : State) : s.nextPorts.rxValid = s.byteWithin 1 := by
  unfold State.nextPorts State.byteWithin
  cases s.script <;> simp [idleEdge]

theorem byteWithin_eq_true {s : State} {n : Nat} :
    s.byteWithin n = true ↔ ∃ p ∈ s.script.take n, p.rxValid = true := List.any_eq_true

theorem byteWithin_eq_false {s : State} {n : Nat} :
    s.byteWithin n = false ↔ ∀ p ∈ s.script.take n, p.rxValid = false := by
  simp [State.byteWithin]

theorem steps_add (n m : Nat) (s : State) : steps (n + m) s = andThen (steps n s) (steps m) := by
  induction n generalizing s with
  | zero => rw [Nat.zero_add, steps_zero, andThen_next]
  | succ n ih =>
    rw [Nat.succ_add, steps_succ, steps_succ, andThen_assoc]
    exact congrArg (andThen _) (funext ih)

theorem steps_one (s : State) : steps 1 s = step s := andThen_next_right _

theorem not_reserved_of_readsDeadline {c : ControlPoint} (h : readsDeadline c = true) : isReserved c = false := by
  cases c <;> simp_all [readsDeadline, isReserved]

theorem ne_frame_of_readsDeadline {c : ControlPoint} (h : readsDeadline c = true) : c ≠ .frame := by
  rintro rfl
  cases h

/-- A tick at a control point that reads the deadline: part 1 can only set `stray` (R132), and the chain goes on from there. -/
theorem execTick_deadline {s t : State} (hc : readsDeadline s.cp = true)
    (h : execRun { s with stray := s.stray || s.ports.rxValid, events := [] } = .next t) :
    execTick s = .next t.advanceClock := by
  have hbook := bookByte_stray (s := { s with events := [] }) (ne_frame_of_readsDeadline hc)
  rw [execTick_go (not_reserved_of_readsDeadline hc), hbook, andThen_next, h, andThen_next]

theorem execTick_wait {s : State} (hc : readsDeadline s.cp = true) (hr : reached s.now s.dl = false) :
    execTick s = .next { s with stray := s.stray || s.ports.rxValid, events := [], now := s.now + 1#32 } :=
  execTick_deadline hc (chain_stall 11 hc hr)

/-- The state after an edge at which the wait goes on. -/
def State.afterWait (s : State) : State :=
  { s.atEdge with stray := s.stray || s.byteWithin 1, events := [], now := s.now + 1#32 }

theorem step_wait {s : State} {m : Nat} (hc : readsDeadline s.cp = true) (hr : reached s.now s.dl = false)
    (h : s.noReset (m + 1)) : step s = .next s.afterWait := by
  rw [h.step_eq_tick, execTick_wait (s := s.atEdge) hc hr, State.afterWait, ← nextPorts_rxValid]
  rfl

theorem afterWait_byteWithin (s : State) (n : Nat) :
    (s.afterWait.stray || s.afterWait.byteWithin n) = (s.stray || s.byteWithin (n + 1)) := by
  rw [Nat.add_comm n, byteWithin_add (t := s.afterWait) n List.drop_one.symm, ← Bool.or_assoc]
  rfl

/-- With the deadline `n + k` ticks ahead, the first `n` steps wait; `m` more edges are free of resets if `n + m` were. -/
theorem steps_wait (n k m : Nat) (hk : n + k < 2 ^ 31) {s : State} (hc : readsDeadline s.cp = true)
    (hdl : s.dl = s.now + BitVec.ofNat 32 (n + k)) (h : s.noReset (n + m)) :
    ∃ t, steps n s = .next t ∧ t.noReset m ∧
      t = { s with
        stray := s.stray || s.byteWithin n, now := s.now + BitVec.ofNat 32 n, ports := t.ports,
        script := s.script.drop n, events := t.events } := by
  induction n generalizing s with
  | zero => exact ⟨s, rfl, by simpa using h, by simp⟩
  | succ n ih =>
    have hr : reached s.now s.dl = false := by
      rw [hdl]
      apply reached_ahead <;> rw [BitVec.toNat_ofNat] <;> omega
    have hedge : s.noReset (n + m + 1) := by rwa [Nat.add_right_comm] at h
    have hnow : s.now + 1#32 + BitVec.ofNat 32 n = s.now + BitVec.ofNat 32 (n + 1) := by
      rw [BitVec.add_assoc, ← BitVec.ofNat_add, Nat.add_comm 1]
    have hnext : s.afterWait.dl = s.afterWait.now + BitVec.ofNat 32 (n + k) := by
      change s.dl = s.now + 1#32 + BitVec.ofNat 32 (n + k)
      rw [hdl, BitVec.add_assoc, ← BitVec.ofNat_add]
      congr 2
      omega
    obtain ⟨t, ht, hreset, hframe⟩ := ih (s := s.afterWait) (by omega) hc hnext (hedge.after_edge rfl rfl)
    refine ⟨t, by rw [steps_succ, step_wait hc hr hedge, andThen_next, ht], hreset, ?_⟩
    rw [hframe, afterWait_byteWithin, ← hnow]
    simp only [State.afterWait, State.atEdge, List.drop_tail]

end Sys2Proof.Machine

/-! ### The synchronizer (R131 to R142) -/

namespace Sys2Proof.Machine

/-- Settles O14: each meaning is its rule's writes; DECODE and DECODE_FS read the fields of the buffer (R152, R153). -/
theorem synchronizerAndDecoderOperations : Obligations.SynchronizerAndDecoderOperations := by
  unfold Obligations.SynchronizerAndDecoderOperations
  exact fun s => ⟨rfl, rfl, rfl, rfl, rfl, rfl, rfl, rfl, rfl, rfl, rfl⟩

/-- Settles O15: there is a byte of `F` at 24 or below, and the u5 `idx` counts past it without a wrap. -/
theorem rxAcceptStoresByte : Obligations.RxAcceptStoresByte := by
  unfold Obligations.RxAcceptStoresByte
  exact fun b s h => ⟨execRxAccept_of_lt b (Nat.lt_succ_of_le h), by bv_omega⟩

/-! #### A group with a wrong marker (R140, R232) -/

theorem chain_badGroup {s : State} (n : Nat) (hc : s.cp = .frame) (hi : s.idx = 25#5) (hm : ¬ MarkersRight s.F) :
    chain (n + 3) s = .next { s with
      T := s.now, events := s.events ++ [.ev2], synchronized := false, stray := false, dl := s.now + 100#32,
      cp := .probe } := by
  have hbad : s.markersGood = false := by rwa [← Bool.not_eq_true, markersGood_iff]
  rw [chain_frameBad (n + 2) hc hi hbad]
  exact chain_probeStart n rfl rfl rfl

/-- Settles O45: the last byte completes the group, and the chain is FRAME_BAD and PROBE_START. -/
theorem badGroupDesynchronizes : Obligations.BadGroupDesynchronizes := by
  unfold Obligations.BadGroupDesynchronizes
  intro s h hm
  have hrun : execRun { s with F := s.group, idx := 25#5, events := [] } = _ := chain_badGroup 9 h.collecting rfl hm
  change execTick s = _
  rw [execTick_go (by simp [h.collecting, isReserved]), bookByte_lastByte h, andThen_next, hrun, andThen_next]
  rfl

/-! #### The probe window (R135, R136, R141, R142) -/

theorem chain_quietWindow {s : State} (n : Nat) (hc : s.cp = .probe) (hr : reached s.now s.dl = true)
    (hs : s.stray = false) :
    chain (n + 3) s = .next { s with synchronized := true, idx := 0#5, cp := .frame } := by
  rw [chain_probeOk (n + 2) hc hr hs]
  exact chain_frameStart n rfl hs rfl

theorem chain_brokenWindow {s : State} (n : Nat) (hc : s.cp = .probe) (hr : reached s.now s.dl = true)
    (hy : s.synchronized = false) (hs : s.stray = true) :
    chain (n + 3) s = .next { s with stray := false, dl := s.now + 100#32, cp := .probe } := by
  rw [chain_probeFail (n + 2) hc hr hs]
  exact chain_probeStart n rfl rfl hy

/-- The tick that ends a window without a byte. -/
theorem execTick_quietWindow {s : State} (hc : s.cp = .probe) (hr : reached s.now s.dl = true)
    (hb : (s.stray || s.ports.rxValid) = false) :
    execTick s = .next { s with
      stray := s.stray || s.ports.rxValid, synchronized := true, idx := 0#5, cp := .frame, events := [],
      now := s.now + 1#32 } :=
  execTick_deadline (by rw [hc]; rfl) (chain_quietWindow 9 hc hr hb)

/-- The tick that ends a window with a byte. -/
theorem execTick_brokenWindow {s : State} (hc : s.cp = .probe) (hr : reached s.now s.dl = true)
    (hy : s.synchronized = false) (hb : (s.stray || s.ports.rxValid) = true) :
    execTick s = .next { s with
      stray := false, dl := s.now + 100#32, cp := .probe, events := [], now := s.now + 1#32 } :=
  execTick_deadline (by rw [hc]; rfl) (chain_brokenWindow 9 hc hr hy hb)

/-- Settles O16: 99 ticks wait, with `stray` holding whether a byte has come; the deadline is reached at the 100th. -/
theorem probeWindowIsHundredTicks : Obligations.ProbeWindowIsHundredTicks := by
  unfold Obligations.ProbeWindowIsHundredTicks
  intro s hc hy hs hdl h
  have hreads : readsDeadline s.cp = true := by rw [hc]; rfl
  constructor
  · intro n hn
    obtain ⟨k, hk⟩ : ∃ k, n + k = 99 := ⟨99 - n, by omega⟩
    obtain ⟨t, ht, -, hframe⟩ := steps_wait n k (k + 1) (by omega) hreads (by rw [hk]; exact hdl)
      (by rwa [← Nat.add_assoc, hk])
    exact ⟨t, ht, by rw [hframe]; exact hc, by rw [hframe]; exact hy⟩
  · obtain ⟨u, hu, hreset, hframe⟩ := steps_wait 99 0 1 (by decide) hreads hdl h
    have hlast : steps 100 s = execTick u.atEdge := by
      rw [show 100 = 99 + 1 from rfl, steps_add, hu, andThen_next, steps_one, hreset.step_eq_tick]
    have hcp : u.cp = .probe := by rw [hframe]; exact hc
    have hsync : u.synchronized = false := by rw [hframe]; exact hy
    have hnow : u.now = s.now + 99#32 := by rw [hframe]
    have hdeadline : u.dl = u.now := by rw [hnow, ← hdl, hframe]
    have hr : reached u.now u.dl = true := by rw [hdeadline, reached_self]
    have hend : u.now + 1#32 = s.now + 100#32 := by rw [hnow, BitVec.add_assoc]; rfl
    have hbyte : (u.stray || u.nextPorts.rxValid) = s.byteWithin 100 := by
      have hstray : u.stray = s.byteWithin 99 := by rw [hframe, hs]; rfl
      rw [hstray, nextPorts_rxValid, byteWithin_add (t := u) (n := 99) 1 (by rw [hframe])]
    rw [← byteWithin_eq_false, ← byteWithin_eq_true]
    cases hb : s.byteWithin 100
    · exact ⟨_, hlast.trans (execTick_quietWindow hcp hr (hbyte.trans hb)), hend, fun _ => ⟨rfl, rfl, rfl⟩, nofun⟩
    · refine ⟨_, hlast.trans (execTick_brokenWindow hcp hr hsync (hbyte.trans hb)), hend, nofun, fun _ => ?_⟩
      exact ⟨hsync, rfl, rfl, by rw [hdl, ← hnow]; rfl⟩

end Sys2Proof.Machine

/-! ### Unpacking and packing again (R154, R155) -/

namespace Sys2Proof.Machine

/-- Both are the number whose bit `11n + i` is bit `i` of slot `n`. -/
theorem slotsValue_unpackFrame (F : Vector Byte 25) : slotsValue (unpackFrame F).slots.toList = framePayload F := by
  have hdigit (k : Nat) : (unpackFrame F).slots.toList.getD k 0#11 = if k < 16 then slotOf F k else 0#11 := by
    rw [unpackFrame_eq, List.getD_eq_getElem?_getD]
    by_cases hk : k < 16 <;> simp [hk]
  refine Nat.eq_of_testBit_eq fun j => ?_
  rw [slotsValue_eq_wordsValue, wordsValue_testBit_div (by decide), hdigit]
  rcases Nat.lt_or_ge j 176 with hj | hj
  · rw [if_pos (by omega), slotOf_getLsbD F _ (Nat.mod_lt j (by decide)), Nat.div_add_mod]
  · rw [if_neg (by omega), framePayload_testBit_of_le F hj, BitVec.getLsbD_zero]

/-- R155's formula for a byte, read in the other direction. -/
theorem framePayload_byte (F : Vector Byte 25) {k : Nat} (hk : k < 22) :
    BitVec.ofNat 8 (framePayload F / 2 ^ (8 * k)) = F[1 + k] := by
  refine BitVec.eq_of_getLsbD_eq fun i hi => ?_
  have hbyte : (8 * k + i) / 8 = k := by omega
  have hbit : (8 * k + i) % 8 = i := by omega
  rw [BitVec.getLsbD_ofNat, Nat.testBit_div_two_pow, Nat.add_comm i, framePayload_testBit F (by omega)]
  simp only [hbyte, hbit, hi, decide_true, Bool.true_and]

theorem packFrame_unpackFrame (F : Vector Byte 25) : packFrame (unpackFrame F) = F := by
  refine Vector.ext fun i hi => ?_
  rcases Nat.eq_zero_or_pos i with rfl | hpos
  · exact packFrame_header _
  obtain ⟨k, rfl⟩ : ∃ k, i = 1 + k := Nat.exists_eq_add_of_le hpos
  by_cases hk : k < 22
  · rw [packFrame_payload _ hk, slotsValue_unpackFrame, framePayload_byte F hk]
  · obtain rfl | rfl : k = 22 ∨ k = 23 := by omega
    · exact packFrame_flags _
    · exact packFrame_trailer _

/-- R154: a slot depends on its own 11 bits only. -/
theorem slotOf_congr {F G : Vector Byte 25} {n : Nat}
    (h : ∀ i, i < 11 → (framePayload F).testBit (11 * n + i) = (framePayload G).testBit (11 * n + i)) :
    slotOf F n = slotOf G n :=
  BitVec.eq_of_getLsbD_eq fun i hi => by rw [slotOf_getLsbD F n hi, slotOf_getLsbD G n hi, h i hi]

/-- Settles O12: packed and unpacked, the payload stays the same number. -/
theorem packingRoundTrips : Obligations.PackingRoundTrips := by
  unfold Obligations.PackingRoundTrips
  exact ⟨slotOf_packFrame, unpackFrame_packFrame, packFrame_unpackFrame, fun _ _ _ _ h => slotOf_congr h⟩

end Sys2Proof.Machine

/-! ### Slots as windows of bytes (R151)

Slot `n` is a window of 11 bits on three neighbouring bytes. What the window shows is written with shifts and a mask, and as
slices of the bytes; both are facts about any three bytes. -/

namespace Sys2Proof.Machine

/-! #### Three bytes side by side, the least significant one last -/

section Window

variable (x y z : Byte)

theorem append_bytes_getLsbD (j : Nat) :
    (z ++ y ++ x).getLsbD j =
      if j < 8 then x.getLsbD j else if j < 16 then y.getLsbD (j - 8) else z.getLsbD (j - 16) := by
  rw [BitVec.getLsbD_append, BitVec.getLsbD_append]
  by_cases hj : j < 16
  · simp only [hj, show j - 8 < 8 by omega, if_true]
  · simp only [hj, show ¬ j - 8 < 8 by omega, if_false, Nat.sub_sub]

theorem append_bytes_first {i len : Nat} (h : i + len ≤ 8) :
    (z ++ y ++ x).extractLsb' i len = x.extractLsb' i len :=
  BitVec.extractLsb'_append_eq_of_add_le h

theorem append_bytes_second {len : Nat} (h : len ≤ 8) : (z ++ y ++ x).extractLsb' 8 len = y.extractLsb' 0 len := by
  rw [BitVec.extractLsb'_append_eq_of_le le_rfl, BitVec.extractLsb'_append_eq_of_add_le (by omega)]

theorem append_bytes_third (len : Nat) : (z ++ y ++ x).extractLsb' 16 len = z.extractLsb' 0 len := by
  rw [BitVec.extractLsb'_append_eq_of_le (by decide), BitVec.extractLsb'_append_eq_of_le le_rfl]

/-- From bit `m` of the first byte to bit `b - 1` of the second. -/
theorem window_eq_two_slices {m a b : Nat} (ha : m + a = 8) (hb : b ≤ 8) :
    (z ++ y ++ x).extractLsb' m (b + a) = y.extractLsb' 0 b ++ x.extractLsb' m a := by
  rw [← BitVec.extractLsb'_append_extractLsb'_eq_extractLsb' ha.symm, append_bytes_second x y z hb,
    append_bytes_first x y z ha.le]

/-- From bit `m` of the first byte, over the second, to bit `c - 1` of the third. -/
theorem window_eq_three_slices {m a c : Nat} (ha : m + a = 8) :
    (z ++ y ++ x).extractLsb' m (c + 8 + a) = z.extractLsb' 0 c ++ y ++ x.extractLsb' m a := by
  rw [← BitVec.extractLsb'_append_extractLsb'_eq_extractLsb' ha.symm,
    ← BitVec.extractLsb'_append_extractLsb'_eq_extractLsb' (start₂ := 16) rfl, append_bytes_third,
    append_bytes_second x y z le_rfl, BitVec.extractLsb'_eq_self, append_bytes_first x y z ha.le]

/-- The mask keeps what the width 11 keeps. -/
theorem and_mask_setWidth (w : BitVec 16) : (w &&& 0x7FF#16).setWidth 11 = w.setWidth 11 := by
  rw [BitVec.setWidth_and]
  exact BitVec.and_allOnes

/-- The first byte loses its bits below the window; each later byte goes up by the number of bits that stand before it. -/
theorem window_eq_three_shifts {m : Nat} (hm : m < 8) :
    (z ++ y ++ x).extractLsb' m 11 =
      ((x.setWidth 16 >>> m ||| y.setWidth 16 <<< (8 - m) ||| z.setWidth 16 <<< (16 - m)) &&& 0x7FF#16).setWidth 11 := by
  rw [and_mask_setWidth]
  refine BitVec.eq_of_getLsbD_eq fun i hi => ?_
  rw [BitVec.getLsbD_extractLsb', append_bytes_getLsbD]
  by_cases h8 : m + i < 8
  · simp [hi, h8, show m + i < 16 by omega, show i < 8 - m by omega, show i < 16 - m by omega]
  by_cases h16 : m + i < 16
  · have hx : x.getLsbD (m + i) = false := BitVec.getLsbD_of_ge x _ (by omega)
    simp [hi, h8, h16, hx, show ¬ i < 8 - m by omega, show i < 16 - m by omega, show m + i - 8 = i - (8 - m) by omega]
  · have hy : y.getLsbD (i - (8 - m)) = false := BitVec.getLsbD_of_ge y _ (by omega)
    simp [hi, h8, h16, hy, show ¬ i < 16 - m by omega, show m + i - 16 = i - (16 - m) by omega]

/-- A window that begins at bit 5 or below ends in the second byte. -/
theorem window_eq_two_shifts {m : Nat} (hm : m ≤ 5) :
    (z ++ y ++ x).extractLsb' m 11 =
      ((x.setWidth 16 >>> m ||| y.setWidth 16 <<< (8 - m)) &&& 0x7FF#16).setWidth 11 := by
  have hz : (z.setWidth 16 <<< (16 - m)).setWidth 11 = 0#11 :=
    BitVec.eq_of_getLsbD_eq fun i hi => by simp [show i < 16 - m by omega]
  rw [window_eq_three_shifts x y z (by omega), and_mask_setWidth, and_mask_setWidth, BitVec.setWidth_or, hz,
    BitVec.or_zero]

end Window

/-! #### The slots -/

/-- Slot `n`, which begins at payload bit `11n`, begins at bit `m` of the `k`-th payload byte (R83). -/
theorem slotOf_eq_window (F : Vector Byte 25) {n k m : Nat} (hn : n < 16) (hm : m < 8) (hstart : 11 * n = 8 * k + m) :
    slotOf F n = (F[3 + k] ++ F[2 + k] ++ F[1 + k]).extractLsb' m 11 := by
  refine BitVec.eq_of_getLsbD_eq fun i hi => ?_
  have hj : 11 * n + i = 8 * k + (m + i) := by omega
  rw [slotOf_getLsbD F n hi, hj, framePayload_testBit F (by omega), BitVec.getLsbD_extractLsb', append_bytes_getLsbD]
  simp only [hi, decide_true, Bool.true_and]
  split_ifs
  all_goals congr 2 <;> omega

/-- Settles O11: slots 0 to 3 begin at bits 0, 3, 6 and 1 of bytes 1, 2, 3 and 5, and only slot 2 reaches a third byte. -/
theorem decodedSlotsByByteOperations : Obligations.DecodedSlotsByByteOperations := by
  unfold Obligations.DecodedSlotsByByteOperations
  intro F b
  have h0 : slotOf F 0 = (F[3] ++ F[2] ++ F[1]).extractLsb' 0 11 :=
    slotOf_eq_window F (k := 0) (by decide) (by decide) rfl
  have h1 : slotOf F 1 = (F[4] ++ F[3] ++ F[2]).extractLsb' 3 11 :=
    slotOf_eq_window F (k := 1) (by decide) (by decide) rfl
  have h2 : slotOf F 2 = (F[5] ++ F[4] ++ F[3]).extractLsb' 6 11 :=
    slotOf_eq_window F (k := 2) (by decide) (by decide) rfl
  have h3 : slotOf F 3 = (F[7] ++ F[6] ++ F[5]).extractLsb' 1 11 :=
    slotOf_eq_window F (k := 4) (by decide) (by decide) rfl
  have hwhole : F[1].extractLsb' 0 8 = F[1] := BitVec.extractLsb'_eq_self
  refine ⟨?_, ?_, ?_, ?_, ?_, ?_, ?_, ?_⟩
  · exact h0.trans (window_eq_two_shifts _ _ _ (by decide))
  · exact h1.trans (window_eq_two_shifts _ _ _ (by decide))
  · exact h2.trans (window_eq_three_shifts _ _ _ (by decide))
  · exact h3.trans (window_eq_two_shifts _ _ _ (by decide))
  · exact h0.trans ((window_eq_two_slices (a := 8) (b := 3) _ _ _ rfl (by decide)).trans (congrArg _ hwhole))
  · exact h1.trans (window_eq_two_slices (a := 5) (b := 6) _ _ _ rfl (by decide))
  · exact h2.trans (window_eq_three_slices (a := 2) (c := 1) _ _ _ rfl)
  · exact h3.trans (window_eq_two_slices (a := 7) (b := 4) _ _ _ rfl (by decide))

end Sys2Proof.Machine

/-! ### The acknowledgment (R164, R170)

The hold is the wait of the control point ACK: its deadline is reached `ACK_HOLD_US` ticks after the commit's. -/

namespace Sys2Proof.Machine

theorem settleTop_cp (s : State) : s.settleTop.cp = .frame ∨ s.settleTop.cp = .probe := by
  unfold State.settleTop
  split
  · exact .inr rfl
  · split
    · exact .inl rfl
    · exact .inr rfl

/-- ACK_END, and what follows TOP (R170, R114). -/
theorem chain_ackOver {s : State} (n : Nat) (hc : s.cp = .ack) (hr : reached s.now s.dl = true) :
    chain (n + 4) s = .next { s with cp := .top }.settleTop :=
  (chain_ackEnd (n + 3) hc hr).trans (chain_top n rfl)

/-- The tick that ends an acknowledgment comes to TOP and opens a collection or a probe. -/
theorem execTick_ackEnd {s : State} (hc : s.cp = .ack) (hr : reached s.now s.dl = true) :
    ∃ t, execTick s = .next t ∧ (t.cp = .frame ∨ t.cp = .probe) :=
  ⟨_, execTick_deadline (by rw [hc]; rfl) (chain_ackOver 8 hc hr), settleTop_cp _⟩

theorem calAck_eq_false {s : State} (h : s.cp = .frame ∨ s.cp = .probe) : s.outputs.calAck = false := by
  unfold State.outputs
  rcases h with h | h <;> split <;> simp [h]

theorem calAck_eq_true {s : State} (hr : s.ports.rst = false) (h : s.cp = .ack) : s.outputs.calAck = true := by
  simp [State.outputs, hr, h]

/-- The deadline of a commit, counted from the state that the commit's tick leaves. -/
theorem holdDeadline_eq {hold : BitVec 31} (now : Time) {n : Nat} (h : hold.toNat = n + 1) :
    now - 1#32 + hold.setWidth 32 = now + BitVec.ofNat 32 n := by
  have hwide : hold.setWidth 32 = BitVec.ofNat 32 n + 1#32 := by
    rw [← BitVec.ofNat_toNat, h, BitVec.ofNat_add]
  rw [hwide]
  bv_omega

/-- Settles O30: the ticks before the deadline wait at ACK, and the one that reaches it performs ACK_END and goes on from
TOP. -/
theorem acknowledgmentHeldExactly : Obligations.AcknowledgmentHeldExactly := by
  unfold Obligations.AcknowledgmentHeldExactly
  intro s hc hpos hdl hreset
  have hreads : readsDeadline s.cp = true := by rw [hc]; rfl
  have hlt := s.par.ackHoldUs.isLt
  obtain ⟨last, hlast⟩ : ∃ last, s.par.ackHoldUs.toNat = last + 1 := ⟨_, (Nat.succ_pred_eq_of_pos hpos).symm⟩
  rw [holdDeadline_eq s.now hlast] at hdl
  rw [hlast] at hreset ⊢
  constructor
  · intro n hn
    obtain ⟨k, rfl⟩ := Nat.exists_eq_add_of_le (Nat.le_of_lt_succ hn)
    obtain ⟨t, ht, ⟨hrst, -⟩, hframe⟩ := steps_wait n k (k + 1) (by omega) hreads hdl hreset
    exact ⟨t, ht, calAck_eq_true hrst (by rw [hframe]; exact hc)⟩
  · obtain ⟨u, hu, hone, hframe⟩ := steps_wait last 0 1 (by omega) hreads hdl hreset
    have hcp : u.cp = .ack := by rw [hframe]; exact hc
    have hdeadline : u.dl = u.now := by rw [hframe]; exact hdl
    have hr : reached u.now u.dl = true := by rw [hdeadline, reached_self]
    obtain ⟨t, ht, hopen⟩ := execTick_ackEnd (s := u.atEdge) hcp hr
    refine ⟨t, ?_, calAck_eq_false hopen, hopen⟩
    rw [steps_add, hu, andThen_next, steps_one, hone.step_eq_tick, ht]

end Sys2Proof.Machine
/-! ### The operations of the calibration engine and the store (R161 to R169) -/

namespace Sys2Proof.Machine

/-- The two slots of a channel are used ones (R61). -/
theorem slot_lt (c : Channel) : 2 * c.index + 1 < 8 := by cases c <;> decide

theorem bound_minSlot (s : State) (c : Channel) : s.bound (2 * c.index) = s.MIN.get c := by cases c <;> rfl

theorem bound_maxSlot (s : State) (c : Channel) : s.bound (2 * c.index + 1) = s.MAX.get c := by cases c <;> rfl

theorem nvLoad_MIN_toNat (s : State) (c : Channel) :
    (s.nvLoad.MIN.get c).toNat = 10 * (s.nvRead (2 * c.index)).toNat := by
  rw [State.nvLoad, PerChannel.get_of, rawOfStored_toNat]

theorem nvLoad_MAX_toNat (s : State) (c : Channel) :
    (s.nvLoad.MAX.get c).toNat = 10 * (s.nvRead (2 * c.index + 1)).toNat := by
  rw [State.nvLoad, PerChannel.get_of, rawOfStored_toNat]

/-- NV_STORE, all it does: each used slot holds the stored byte of its bound, every other address is as before. -/
theorem nvStore_nvRead {s : State} (h : Memory.wf s.NV) (a : Nat) :
    s.nvStore.nvRead a = if a < 8 then storedOfRaw (s.bound a) else s.nvRead a :=
  writeUsed_read h (fun a => storedOfRaw (s.bound a)) a

theorem nvStore_minSlot {s : State} (h : Memory.wf s.NV) {c : Channel} (hlt : (s.MIN.get c).toNat < 2560) :
    (s.nvStore.nvRead (2 * c.index)).toNat = (s.MIN.get c).toNat / 10 := by
  rw [nvStore_nvRead h, if_pos (Nat.lt_of_succ_lt (slot_lt c)), bound_minSlot, storedOfRaw_toNat hlt]

theorem nvStore_maxSlot {s : State} (h : Memory.wf s.NV) {c : Channel} (hlt : (s.MAX.get c).toNat < 2560) :
    (s.nvStore.nvRead (2 * c.index + 1)).toNat = (s.MAX.get c).toNat / 10 := by
  rw [nvStore_nvRead h, if_pos (slot_lt c), bound_maxSlot, storedOfRaw_toNat hlt]

theorem nvStore_unused {s : State} (h : Memory.wf s.NV) {a : Nat} (ha : 8 ≤ a) : s.nvStore.nvRead a = s.nvRead a := by
  rw [nvStore_nvRead h, if_neg ha.not_gt]

/-- NV_FORMAT, all it does. -/
theorem nvFormat_nvRead {s : State} (h : Memory.wf s.NV) (a : Nat) :
    s.nvFormat.nvRead a = if a < 8 then formatByte a else s.nvRead a :=
  writeUsed_read h formatByte a

theorem formatByte_slots (c : Channel) : formatByte (2 * c.index) = 1#8 ∧ formatByte (2 * c.index + 1) = 200#8 := by
  cases c <;> decide

/-- The ranges with the present channel values taken in (R162). -/
def State.expanded (s : State) : State :=
  { s with
    MIN := PerChannel.of (fun c => lowerBound (s.MIN.get c) (s.CH.get c))
    MAX := PerChannel.of (fun c => upperBound (s.MAX.get c) (s.CH.get c)) }

theorem expanded_MIN_toNat (s : State) (c : Channel) :
    (s.expanded.MIN.get c).toNat = min (s.MIN.get c).toNat (s.CH.get c).toNat := by
  rw [State.expanded, PerChannel.get_of, lowerBound_toNat, Nat.min_comm]

theorem expanded_MAX_toNat (s : State) (c : Channel) :
    (s.expanded.MAX.get c).toNat = max (s.MAX.get c).toNat (s.CH.get c).toNat := by
  rw [State.expanded, PerChannel.get_of, upperBound_toNat, Nat.max_comm]

/-- Settles O22: CAL_EXPAND takes each value into its range; the other three write constants. -/
theorem sessionOpensWidensAndCloses : Obligations.SessionOpensWidensAndCloses := by
  unfold Obligations.SessionOpensWidensAndCloses
  intro s
  refine ⟨rfl, rfl, rfl, s.expanded.goto .top, rfl, rfl, fun c => ?_⟩
  exact ⟨expanded_MIN_toNat s c, expanded_MAX_toNat s c⟩

/-- Settles O23: EV3's recovery is the load itself. -/
theorem loadAndRejectionReadStore : Obligations.LoadAndRejectionReadStore := by
  unfold Obligations.LoadAndRejectionReadStore
  intro s
  refine ⟨s.nvLoad, rfl, rfl, rfl, fun c => ?_⟩
  obtain ⟨hmin, hmax⟩ := nvLoad_bounds s c
  exact ⟨nvLoad_MIN_toNat s c, nvLoad_MAX_toNat s c, hmin, hmax⟩

/-- Settles O24: the store's slots after the eight writes of NV_STORE; CAL_COMMIT stores in the same way. -/
theorem storeAndCommitWriteQuotients : Obligations.StoreAndCommitWriteQuotients := by
  unfold Obligations.StoreAndCommitWriteQuotients
  intro s hs
  refine ⟨s.nvStore, rfl, rfl, rfl, fun a => nvStore_unused hs, fun c => ?_⟩
  exact ⟨nvStore_minSlot hs, nvStore_maxSlot hs⟩

/-- Settles O25: the store's slots after the eight writes of NV_FORMAT. -/
theorem nvFormatWritesDefaults : Obligations.NvFormatWritesDefaults := by
  unfold Obligations.NvFormatWritesDefaults
  intro s hs
  refine ⟨s.nvFormat, rfl, rfl, fun a ha => ?_, fun c => ?_⟩
  · rw [nvFormat_nvRead hs, if_neg ha.not_gt]
  · obtain ⟨hmin, hmax⟩ := formatByte_slots c
    rw [nvFormat_nvRead hs, nvFormat_nvRead hs, if_pos (Nat.lt_of_succ_lt (slot_lt c)), if_pos (slot_lt c)]
    exact ⟨hmin, hmax⟩

end Sys2Proof.Machine

/-! ### The tick that completes a frame in a calibration cycle (R112, R120)

FRAME_DONE, the three operations of CYCLE, and CAL with the frame's channel values; then, by the trigger and the session, a
sample, a commit or a rejection. -/

namespace Sys2Proof.Machine

/-- The chain from a complete group to CAL. -/
theorem chain_groupToCal {s : State} (n : Nat) (hc : s.cp = .frame) (hi : s.idx = 25#5) (hm : MarkersRight s.F)
    (hcal : s.ports.calTrig = true ∨ s.calState = .calibrating) :
    chain (n + 2) s = chain n { s with
      T := s.now, CH := decodedChannels s.par.chSlot s.F, failsafeOut := failsafeBit s.F, cp := .cal } := by
  have hbranch : (if s.ports.calTrig || s.gCal then ControlPoint.cal else .mix) = .cal :=
    if_pos (by rwa [Bool.or_eq_true, gCal_iff])
  rw [chain_frameDone (n + 1) hc hi ((markersGood_iff s).mpr hm), ← hbranch]
  exact chain_cycle n rfl

/-- A completed frame at CAL, within its tick. -/
def State.atCal (s : State) : State := { s.decoded with idx := 25#5, now := s.now, cp := .cal, events := [] }

/-- The tick of a completed frame of a calibration cycle: the chain goes on from CAL. -/
theorem execTick_cal {s t : State} (h : s.AtLastByte) (hm : MarkersRight s.group)
    (hcal : s.ports.calTrig = true ∨ s.calState = .calibrating) (ht : chain 10 s.atCal = .next t) :
    execTick s = .next t.advanceClock := by
  have hrun := chain_groupToCal (s := { s with F := s.group, idx := 25#5, events := [] }) 10 h.collecting rfl hm hcal
  rw [execTick_go (by simp [h.collecting, isReserved]), bookByte_lastByte h, andThen_next, execRun, chainFuel, hrun]
  exact congrArg (andThen · fun v => .next v.advanceClock) ht

/-! #### From CAL on -/

/-- A session that CAL_ENTER has just opened (R161). -/
def State.entered (s : State) : State :=
  { s with
    calState := .calibrating
    MIN := PerChannel.of (fun _ => Config.calSentinel)
    MAX := PerChannel.of (fun _ => Config.calSentinel) }

/-- CAL_EXPAND, and the next collection (R162, R120). -/
theorem chain_sample {s : State} (n : Nat) (hc : s.cp = .cal) (ht : s.ports.calTrig = true)
    (hcal : s.calState = .calibrating) (hs : s.stray = false) (hy : s.synchronized = true) :
    chain (n + 3) s = .next { s.expanded with idx := 0#5, cp := .frame } := by
  rw [chain_calExpand (n + 2) hc ht hcal]
  exact chain_frameStart (s := s.expanded.goto .top) n rfl hs hy

theorem chain_enter {s : State} (n : Nat) (hc : s.cp = .cal) (ht : s.ports.calTrig = true) (hcal : s.calState = .idle) :
    chain (n + 1) s = chain n s.entered := by
  rw [chain_calEnter n hc ht hcal]
  rfl

/-- The hold that a commit has just begun: it stays, and a hold of 0 is over at once (R164, R170). -/
theorem chain_holdBegun {s : State} (n : Nat) (hc : s.cp = .ack) (hdl : s.dl = s.now + s.par.ackHoldUs.setWidth 32)
    (hs : s.stray = false) (hy : s.synchronized = true) :
    chain (n + 3) s = .next { s with
      idx := if s.par.ackHoldUs = 0#31 then 0#5 else s.idx
      cp := if s.par.ackHoldUs = 0#31 then .frame else .ack } := by
  have hlt := s.par.ackHoldUs.isLt
  have hwide : (s.par.ackHoldUs.setWidth 32).toNat = s.par.ackHoldUs.toNat := by
    rw [BitVec.toNat_setWidth]
    omega
  by_cases h0 : s.par.ackHoldUs = 0#31
  · have hr : reached s.now s.dl = true := by simp [hdl, h0]
    rw [if_pos h0, if_pos h0, chain_ackEnd (n + 2) hc hr]
    exact chain_frameStart n rfl hs hy
  · have hpos : 0 < s.par.ackHoldUs.toNat :=
      Nat.pos_of_ne_zero fun hz => h0 (BitVec.eq_of_toNat_eq hz)
    have hr : reached s.now s.dl = false := by
      rw [hdl]
      exact reached_ahead (hwide ▸ hpos) (hwide ▸ hlt)
    rw [if_neg h0, if_neg h0, ← hc]
    exact chain_stall (n + 2) (by rw [hc]; rfl) hr

/-- CAL_EXIT, CAL_COMMIT and the hold (R163, R164). -/
theorem chain_commit {s : State} (n : Nat) (hc : s.cp = .cal) (ht : s.ports.calTrig = false)
    (hcal : s.calState = .calibrating) (hg : s.SpansGood) (hs : s.stray = false) (hy : s.synchronized = true) :
    chain (n + 5) s = .next { s.nvStore with
      idx := if s.par.ackHoldUs = 0#31 then 0#5 else s.idx
      calState := .idle
      dl := s.now + s.par.ackHoldUs.setWidth 32
      cp := if s.par.ackHoldUs = 0#31 then .frame else .ack } := by
  have hspan : s.gSpan = true := (gSpan_iff s).mpr hg
  rw [chain_calExit (n + 4) hc ht hcal, chain_calCommit (s := { s with calState := .idle }) (n + 3) hc ht rfl hspan]
  exact chain_holdBegun (s := { s.nvStore with
    calState := .idle, dl := s.now + s.par.ackHoldUs.setWidth 32, cp := .ack }) n rfl rfl hs hy

/-- CAL_EXIT, CAL_REJECT and the next collection (R163, R165). -/
theorem chain_reject {s : State} (n : Nat) (hc : s.cp = .cal) (ht : s.ports.calTrig = false)
    (hcal : s.calState = .calibrating) (hg : ¬ s.SpansGood) (hs : s.stray = false) (hy : s.synchronized = true) :
    chain (n + 4) s = .next { s.nvLoad with
      idx := 0#5, calState := .idle, cp := .frame, events := s.events ++ [.ev3] } := by
  have hspan : s.gSpan = false := by rwa [← Bool.not_eq_true, gSpan_iff]
  rw [chain_calExit (n + 3) hc ht hcal, chain_calReject (s := { s with calState := .idle }) (n + 2) hc ht rfl hspan]
  exact chain_frameStart (s := { s.nvLoad with calState := .idle, cp := .top, events := s.events ++ [.ev3] }) n rfl hs hy

/-! #### The three kinds of tick -/

/-- Settles O42: a frame that opens the session is its first sample. -/
theorem triggeredFrameIsSample : Obligations.TriggeredFrameIsSample := by
  unfold Obligations.TriggeredFrameIsSample
  intro s h hlast hm ht
  obtain ⟨hy, hs, -⟩ := h.frameOpen hlast.collecting
  cases hcal : s.calState
  case idle =>
    have hrun : chain 10 s.atCal = _ :=
      (chain_enter (s := s.atCal) 9 rfl ht hcal).trans (chain_sample (s := s.atCal.entered) 6 rfl ht rfl hs hy)
    refine ⟨_, execTick_cal hlast hm (.inl ht) hrun, ?_, fun c => ?_⟩
    · simp [State.atCal, State.decoded, State.expanded, State.entered, State.advanceClock, hlast.collecting]
    · have hstart : (s.atCal.entered.MIN.get c).toNat = 1000 ∧ (s.atCal.entered.MAX.get c).toNat = 1000 := by
        simp [State.entered, Config.calSentinel]
      obtain ⟨hlo, hhi⟩ := hstart
      rw [if_pos rfl, if_pos rfl, ← hlo]
      exact ⟨expanded_MIN_toNat s.atCal.entered c, hhi ▸ expanded_MAX_toNat s.atCal.entered c⟩
  case calibrating =>
    have hrun : chain 10 s.atCal = _ := chain_sample 7 rfl ht hcal hs hy
    refine ⟨_, execTick_cal hlast hm (.inl ht) hrun, ?_, fun c => ?_⟩
    · simp [State.atCal, State.decoded, State.expanded, State.advanceClock, hlast.collecting, hcal]
    · exact ⟨expanded_MIN_toNat s.atCal c, expanded_MAX_toNat s.atCal c⟩

/-- Settles O43: the tick stores the bounds of the session, each at most 2550, and the hold begins. -/
theorem closingFrameCommits : Obligations.ClosingFrameCommits := by
  unfold Obligations.ClosingFrameCommits
  intro s h hlast hm ht hcal hg
  obtain ⟨hy, hs, -⟩ := h.frameOpen hlast.collecting
  have hrun : chain 10 s.atCal = _ := chain_commit 5 rfl ht hcal hg hs hy
  refine ⟨_, execTick_cal hlast hm (.inr hcal) hrun, rfl, ?_, fun c => ?_⟩
  · exact nvStore_unused (s := s.atCal) h.store (Nat.le_refl 8)
  · obtain ⟨hmin, hmax⟩ := h.bounds c
    exact ⟨nvStore_minSlot (s := s.atCal) h.store (Nat.lt_of_le_of_lt hmin (by decide)),
      nvStore_maxSlot (s := s.atCal) h.store (Nat.lt_of_le_of_lt hmax (by decide))⟩

/-- Settles O44: the tick takes EV3, whose recovery loads the store. -/
theorem closingFrameRejects : Obligations.ClosingFrameRejects := by
  unfold Obligations.ClosingFrameRejects
  intro s h hlast hm ht hcal hg
  obtain ⟨hy, hs, -⟩ := h.frameOpen hlast.collecting
  have hrun : chain 10 s.atCal = _ := chain_reject 6 rfl ht hcal hg hs hy
  refine ⟨_, execTick_cal hlast hm (.inr hcal) hrun, ?_, fun c => ?_⟩
  · simp [State.atCal, State.decoded, State.nvLoad, State.advanceClock, hlast.collecting]
  · exact ⟨nvLoad_MIN_toNat s.atCal c, nvLoad_MAX_toNat s.atCal c⟩

end Sys2Proof.Machine

/-! ### Ticks of an open session (R172, R176)

A tick of a collection or of a probe that completes no good group leaves the ranges and the scheduler's registers alone;
one that completes a good group is one of the three kinds above. -/

namespace Sys2Proof.Machine

/-- The tick from `s` to `t` ran neither mixer nor scheduler (R176). -/
structure Silent (s t : State) : Prop where
  widths : t.PW = s.PW
  parity : t.parity = s.parity
  lines : t.OUT = s.OUT
  cp : isScheduling t.cp = false

/-- A silent tick that took no sample either and loaded nothing. -/
structure GoesOn (s t : State) : Prop extends Silent s t where
  min : t.MIN = s.MIN
  max : t.MAX = s.MAX

/-- A tick of a collection that books no byte, one of the first 24, or the last of a bad group. -/
theorem Safe.collect_goesOn {s t : State} (h : Safe s) (hc : s.cp = .frame)
    (hn : ¬ (s.AtLastByte ∧ MarkersRight s.group)) (ht : execTick s = .next t) : GoesOn s t := by
  obtain ⟨-, -, hi⟩ := h.frameOpen hc
  cases hv : s.ports.rxValid
  case false =>
    have hfull : s.idx ≠ 25#5 := by bv_omega
    rw [execTick_collect_idle hc hfull hv] at ht
    obtain rfl := Host.Outcome.next.inj ht
    exact ⟨⟨rfl, rfl, rfl, congrArg isScheduling hc⟩, rfl, rfl⟩
  case true =>
    by_cases hlt : s.idx.toNat < 24
    · rw [execTick_collect_byte hc hlt hv] at ht
      obtain rfl := Host.Outcome.next.inj ht
      exact ⟨⟨rfl, rfl, rfl, congrArg isScheduling hc⟩, rfl, rfl⟩
    · have hlast : s.AtLastByte := ⟨hc, by bv_omega, hv⟩
      have hbad := badGroupDesynchronizes s hlast fun hm => hn ⟨hlast, hm⟩
      obtain rfl := Host.Outcome.next.inj (hbad.symm.trans ht)
      exact ⟨⟨rfl, rfl, rfl, rfl⟩, rfl, rfl⟩

/-- A tick of a probe: the window goes on, or it ends with or without a byte. -/
theorem Safe.probe_goesOn {s t : State} (h : Safe s) (hc : s.cp = .probe) (ht : execTick s = .next t) : GoesOn s t := by
  cases hr : reached s.now s.dl
  case false =>
    rw [execTick_wait (by rw [hc]; rfl) hr] at ht
    obtain rfl := Host.Outcome.next.inj ht
    exact ⟨⟨rfl, rfl, rfl, congrArg isScheduling hc⟩, rfl, rfl⟩
  case true =>
    cases hb : (s.stray || s.ports.rxValid)
    case false =>
      rw [execTick_quietWindow hc hr hb] at ht
      obtain rfl := Host.Outcome.next.inj ht
      exact ⟨⟨rfl, rfl, rfl, rfl⟩, rfl, rfl⟩
    case true =>
      rw [execTick_brokenWindow hc hr (h.probing hc) hb] at ht
      obtain rfl := Host.Outcome.next.inj ht
      exact ⟨⟨rfl, rfl, rfl, rfl⟩, rfl, rfl⟩

/-- A frame without the trigger closes the session. -/
theorem Safe.closing_idle {s t : State} (h : Safe s) (hlast : s.AtLastByte) (hm : MarkersRight s.group)
    (htrig : s.ports.calTrig = false) (hcal : s.calState = .calibrating) (ht : execTick s = .next t) :
    t.calState = .idle := by
  by_cases hg : s.SpansGood
  · obtain ⟨u, hu, hframe, -⟩ := closingFrameCommits s h hlast hm htrig hcal hg
    obtain rfl := Host.Outcome.next.inj (hu.symm.trans ht)
    rw [hframe]
  · obtain ⟨u, hu, hframe, -⟩ := closingFrameRejects s h hlast hm htrig hcal hg
    obtain rfl := Host.Outcome.next.inj (hu.symm.trans ht)
    rw [hframe]

/-- Settles O28: the session is open at a collection or a probe, and of the ticks that leave it open only a sample writes the
ranges. -/
theorem sessionRangesOnlyWiden : Obligations.SessionRangesOnlyWiden := by
  unfold Obligations.SessionRangesOnlyWiden
  intro s t h hcal ht hopen c
  by_cases hgood : s.AtLastByte ∧ MarkersRight s.group
  · obtain ⟨hlast, hm⟩ := hgood
    cases htrig : s.ports.calTrig
    case false => cases (h.closing_idle hlast hm htrig hcal ht).symm.trans hopen
    case true =>
      obtain ⟨u, hu, -, hbounds⟩ := triggeredFrameIsSample s h hlast hm htrig
      obtain rfl := Host.Outcome.next.inj (hu.symm.trans ht)
      obtain ⟨hmin, hmax⟩ := hbounds c
      rw [hmin, hmax, hcal]
      exact ⟨min_le_left _ _, le_max_left _ _⟩
  · have hgo : GoesOn s t := by
      obtain ⟨-, hc | hc⟩ := h.session hcal
      · exact h.probe_goesOn hc ht
      · exact h.collect_goesOn hc hgood ht
    rw [hgo.min, hgo.max]
    exact ⟨le_refl _, le_refl _⟩

/-- A sample, a commit and a rejection are silent. -/
theorem Safe.calFrame_silent {s t : State} (h : Safe s) (hlast : s.AtLastByte) (hm : MarkersRight s.group)
    (hcal : s.calState = .calibrating ∨ s.ports.calTrig = true) (ht : execTick s = .next t) : Silent s t := by
  have hdecoded : isScheduling s.decoded.cp = false := congrArg isScheduling hlast.collecting
  cases htrig : s.ports.calTrig
  case true =>
    obtain ⟨u, hu, hframe, -⟩ := triggeredFrameIsSample s h hlast hm htrig
    obtain rfl := Host.Outcome.next.inj (hu.symm.trans ht)
    rw [hframe]
    exact ⟨rfl, rfl, rfl, hdecoded⟩
  case false =>
    have hopen : s.calState = .calibrating := hcal.resolve_right (by simp [htrig])
    by_cases hg : s.SpansGood
    · obtain ⟨u, hu, hframe, -⟩ := closingFrameCommits s h hlast hm htrig hopen hg
      obtain rfl := Host.Outcome.next.inj (hu.symm.trans ht)
      rw [hframe]
      refine ⟨rfl, rfl, rfl, ?_⟩
      change isScheduling (if s.par.ackHoldUs = 0#31 then .frame else .ack) = false
      split <;> rfl
    · obtain ⟨u, hu, hframe, -⟩ := closingFrameRejects s h hlast hm htrig hopen hg
      obtain rfl := Host.Outcome.next.inj (hu.symm.trans ht)
      rw [hframe]
      exact ⟨rfl, rfl, rfl, hdecoded⟩

/-- Settles O29: every such tick is silent, and no line is asserted where it begins. -/
theorem calibrationCycleIsSilent : Obligations.CalibrationCycleIsSilent := by
  unfold Obligations.CalibrationCycleIsSilent
  intro s t h hc hcal ht
  have hlow : s.OUT = linesLow := by rw [h.lines, hc]; rfl
  have hsilent : Silent s t := by
    by_cases hgood : s.AtLastByte ∧ MarkersRight s.group
    · obtain ⟨hlast, hm⟩ := hgood
      exact h.calFrame_silent hlast hm hcal ht
    · exact (h.collect_goesOn hc hgood ht).toSilent
  exact ⟨hsilent.widths, hsilent.parity, hsilent.lines.trans hlow, hsilent.cp⟩

end Sys2Proof.Machine

/-! ### The store without a commit (R166, R173)

Of the rows only CAL_COMMIT writes the store, at CAL with good spans. A chain that comes to CAL comes from a complete group
and brings its ranges along, so with a small span it does not commit; after CAL it is on its way to a wait. -/

namespace Sys2Proof.Machine

/-- With good spans, the chain is not between a complete group and CAL. -/
def State.WithoutCommit (s : State) : Prop :=
  s.SpansGood → s.cp ≠ .cycle ∧ s.cp ≠ .cal ∧ (s.cp = .frame → s.idx ≠ 25#5)

theorem selectedOps_eq_singleton {s : State} (hc : s.cp ≠ .cycle) : ∃ i, s.selectedOps = [i] := by
  rw [selectedOps_eq]
  revert hc
  cases s.cp <;> simp only [listing] <;> (repeat' split) <;> simp

theorem execAll_singleton (i : Instr) (s : State) : execAll [i] s = exec i s := andThen_next_right (exec i s)

/-- R118: the rows outside CYCLE that lead to CYCLE, CAL or FRAME. -/
theorem transfers_toward_cal : ∀ x ∈ transfers, x.1 ≠ .cycle → isStop x.2.1 = false →
    (x.2.2 ≠ .cycle ∧ x.2.2 ≠ .cal ∧ x.2.2 ≠ .frame) ∨ x.2.1 = .frameStart ∨ x.2.1 = .calEnter ∨
      (x.1 = .frame ∧ x.2.1 = .frameDone) ∨ (x.1 = .cal ∧ x.2.1 = .calExit) := by decide

/-- R94: CAL_COMMIT is listed at CAL with good spans only. -/
theorem calCommit_mem_listing {c : ControlPoint} {b8 b7 b6 b5 b4 b3 b2 span b0 : Bool}
    (h : .calCommit ∈ listing c b8 b7 b6 b5 b4 b3 b2 span b0) : c = .cal ∧ span = true := by
  revert h
  cases c <;> simp only [listing] <;> (repeat' split) <;> simp_all

theorem calCommit_not_selected {s : State} (h : s.WithoutCommit) : .calCommit ∉ s.selectedOps := by
  intro hi
  rw [selectedOps_eq] at hi
  obtain ⟨hc, hspan⟩ := calCommit_mem_listing hi
  obtain ⟨-, hcal, -⟩ := h ((gSpan_iff s).mp hspan)
  exact hcal hc

theorem exec_row_withoutCommit {s u : State} {i : Instr} (h : s.WithoutCommit) (hc : s.cp ≠ .cycle)
    (hi : i ∈ s.selectedOps) (hstop : isStop i = false) (hu : exec i s = .next u) : u.WithoutCommit := by
  have hmove : (s.cp, i, u.cp) ∈ transfers := by
    rcases controlTransfersAreListed.1 s u i hi hu with hlist | ⟨rfl | rfl, -⟩
    · exact hlist
    · cases hstop
    · cases hstop
  rcases transfers_toward_cal _ hmove hc hstop with ⟨hcycle, hcal, hframe⟩ | rfl | rfl | ⟨hcp, rfl⟩ | ⟨hcp, rfl⟩
  case inl => exact fun _ => ⟨hcycle, hcal, fun hf => absurd hf hframe⟩
  all_goals
    obtain rfl := Host.Outcome.next.inj hu
    intro hg
  case inr.inl => exact ⟨nofun, nofun, fun _ => by simp⟩
  case inr.inr.inl => exact absurd (hg .rudder) (by simp [Config.calSentinel])
  case inr.inr.inr.inl =>
    obtain ⟨-, -, hidx⟩ := h hg
    simp [selectedOps_frame_open hcp (hidx hcp)] at hi
  case inr.inr.inr.inr =>
    obtain ⟨-, hcal, -⟩ := h hg
    exact absurd hcp hcal

/-- One selection of such a chain. -/
theorem State.WithoutCommit.after_selected {s u : State} (h : s.WithoutCommit)
    (hs : ∀ i ∈ s.selectedOps, isStop i = false) (hu : execAll s.selectedOps s = .next u) :
    u.NV = s.NV ∧ u.WithoutCommit := by
  by_cases hc : s.cp = .cycle
  · rw [selectedOps_cycle hc] at hu
    obtain rfl := Host.Outcome.next.inj hu
    refine ⟨rfl, fun hg => ?_⟩
    obtain ⟨hcycle, -, -⟩ := h hg
    exact absurd hc hcycle
  · obtain ⟨i, hsel⟩ := selectedOps_eq_singleton hc
    have hi : i ∈ s.selectedOps := by rw [hsel]; exact List.mem_singleton_self i
    have hrow := mem_operationMap_of_selected hi
    rw [hsel, execAll_singleton] at hu
    refine ⟨exec_store_eq (isSingle_of_mem_operationMap i hrow) ?_ hu, exec_row_withoutCommit h hc hi (hs i hi) hu⟩
    simp only [List.mem_cons, List.not_mem_nil, or_false]
    rintro (rfl | rfl | rfl)
    · exact absurd hrow (by decide)
    · exact calCommit_not_selected h hi
    · exact absurd hrow (by decide)

theorem ChainRuns.store_eq {s t : State} {is : List Instr} (hrun : ChainRuns s is t) (h : s.WithoutCommit) :
    t.NV = s.NV := by
  induction hrun with
  | stop => rfl
  | go s u t is hs hu _ ih =>
    obtain ⟨hstore, hnext⟩ := h.after_selected hs hu
    exact (ih hnext).trans hstore

theorem bookByte_keeps_ranges_store {s u : State} (h : bookByte s = .next u) :
    u.MIN = s.MIN ∧ u.MAX = s.MAX ∧ u.NV = s.NV := by
  unfold bookByte at h
  split at h
  · split at h
    · obtain ⟨-, rfl⟩ := execRxAccept_eq_next h
      exact ⟨rfl, rfl, rfl⟩
    · obtain rfl := Host.Outcome.next.inj h
      exact ⟨rfl, rfl, rfl⟩
  · obtain rfl := Host.Outcome.next.inj h
    exact ⟨rfl, rfl, rfl⟩

/-- Settles O27: the tick's chain begins with the small span. -/
theorem smallSpanLeavesStore : Obligations.SmallSpanLeavesStore := by
  unfold Obligations.SmallSpanLeavesStore
  intro s t hg ht
  change execTick s = .next t at ht
  cases hc : isReserved s.cp
  case true =>
    rw [execTick_reserved hc] at ht
    rw [← Host.Outcome.next.inj ht]
  case false =>
    rw [execTick_go hc] at ht
    obtain ⟨u, hu, ht⟩ := andThen_eq_next.mp ht
    obtain ⟨v, hv, ht⟩ := andThen_eq_next.mp ht
    obtain rfl := Host.Outcome.next.inj ht
    obtain ⟨hmin, hmax, hstore⟩ := bookByte_keeps_ranges_store hu
    have hsmall : ¬ u.SpansGood := by rwa [State.SpansGood, hmin, hmax]
    obtain ⟨is, w, hrun, hw⟩ := runPerformsTheChain u
    obtain rfl : w = v := Host.Outcome.next.inj (hw.symm.trans hv)
    exact (hrun.store_eq fun hgood => absurd hgood hsmall).trans hstore

end Sys2Proof.Machine

/-! ### The mixer's operations (R186 to R197) -/

namespace Sys2Proof.Machine

theorem State.RangesGood.execMixOk_eq {s : State} (h : s.RangesGood) :
    execMixOk s = .next { s with PW := s.mixedWidths, dl := s.T + 1000#32, cp := .wait1 } :=
  execMixOk_of_range ((gRange_iff s).mpr h)

/-- Settles O33: the two forms agree width by width. -/
theorem mixOkEqualsIntegerForm : Obligations.MixOkEqualsIntegerForm := by
  unfold Obligations.MixOkEqualsIntegerForm
  intro s h
  exact ⟨_, h.execMixOk_eq, rfl, h.mixedWidths_eq_integer⟩

/-- Settles O31: clamping the quotient clamps its numerator. -/
theorem normDividesClampedValue : Obligations.NormDividesClampedValue := by
  unfold Obligations.NormDividesClampedValue
  intro s h
  refine ⟨_, execNorm_of_range ((gRange_iff s).mpr h), rfl, fun c => ?_⟩
  simp only [PerChannel.get_of]
  exact ⟨h.normalize_eq c, clamp01_nonneg _, clamp01_le_one _⟩

/-! #### The five steps (R187 to R194, R196) -/

theorem pulseWidthInt_eq_floor (x : Int) : pulseWidthInt x = 880 + ⌊(x : Rat) * 13 / 20⌋ := by
  rw [pulseWidthInt, Config.pwScale, Config.pwBase, mul_div_assoc]

/-- R196: MIX_OK is its five steps in order, but for the intermediates that it gives back, the deadline and `cp`. -/
theorem execMixOk_of_steps {s u : State} (h : execAll [.norm, .thrMix, .thrRedist, .elvMix, .toPw] s = .next u) :
    execMixOk s = .next { u with work := s.work, dl := s.T + 1000#32, cp := .wait1 } := by
  obtain ⟨v, hnorm, hrest⟩ := andThen_eq_next.mp h
  change execNorm s = .next v at hnorm
  obtain ⟨w, rfl⟩ := execNorm_eq_next hnorm
  simp only [execAll, exec, execThrMix, execThrRedist, execElvMix, execToPw, andThen_next, Host.Outcome.next.injEq] at hrest
  subst hrest
  simp only [execMixOk, hnorm, execThrMix, execThrRedist, execElvMix, execToPw, andThen_next, State.goto, Config.slot1Us]

/-- R192 to R194 for a width that fits its register. -/
theorem toPulseWidth_toNat_of_fits {lo hi : Bound} {o : Rat} (h0 : 0 ≤ pulseWidthInt (scaledValue lo hi o))
    (h1 : pulseWidthInt (scaledValue lo hi o) ≤ 4095) :
    ((toPulseWidth lo hi o).toNat : Int) = pulseWidthInt (scaledValue lo hi o) :=
  narrowWidth_toNat h0 (by omega)

/-- Settles O32: each step's formula is the model's, and a width that fits is not narrowed. -/
theorem mixStepsFollowFormulas : Obligations.MixStepsFollowFormulas := by
  unfold Obligations.MixStepsFollowFormulas
  intro s
  refine ⟨rfl, rfl, rfl, fun u => execMixOk_of_steps, _, rfl, rfl, fun k => ?_⟩
  simp only [← pulseWidthInt_eq_floor]
  cases k <;> exact toPulseWidth_toNat_of_fits

/-! #### Widths within their range (R195) -/

/-- The channel whose range an output uses (R193). -/
def outputChannel (k : Output) : Channel := if k = .thr1 ∨ k = .thr2 then .throttle else .elevator

/-- Every width is that of a normalized output through the range of its channel (R191, R193). -/
theorem mixedWidths_get_eq (s : State) (k : Output) : ∃ o : Rat, 0 ≤ o ∧ o ≤ 1 ∧
    s.mixedWidths.get k = toPulseWidth (s.MIN.get (outputChannel k)) (s.MAX.get (outputChannel k)) o := by
  cases k <;> exact ⟨_, clamp01_nonneg _, clamp01_le_one _, rfl⟩

/-- R192, R194 through a good range: no width leaves its register, since the widest bound has the width 3541. -/
theorem toPulseWidth_toNat {lo hi : Bound} (h : lo.toNat < hi.toNat) {o : Rat} (h0 : 0 ≤ o) (h1 : o ≤ 1) :
    ((toPulseWidth lo hi o).toNat : Int) = 880 + 13 * scaledValue lo hi o / 20 := by
  obtain ⟨hlow, hhigh⟩ := scaledValue_mem h h0 h1
  have hlt := hi.isLt
  rw [toPulseWidth, pulseWidthInt_eq]
  exact narrowWidth_toNat (by omega) (by omega)

/-- R195: the width lies between those of the range's bounds. -/
theorem toPulseWidth_mem_bounds {lo hi : Bound} (h : lo.toNat < hi.toNat) {o : Rat} (h0 : 0 ≤ o) (h1 : o ≤ 1) :
    880 + 13 * lo.toNat / 20 ≤ (toPulseWidth lo hi o).toNat ∧
      (toPulseWidth lo hi o).toNat ≤ 880 + 13 * hi.toNat / 20 := by
  obtain ⟨hlow, hhigh⟩ := scaledValue_mem h h0 h1
  have hwidth := toPulseWidth_toNat h h0 h1
  omega

/-- Settles O34: each output is between 0 and 1, and its channel's range is good. -/
theorem pulseWidthsStayInRange : Obligations.PulseWidthsStayInRange := by
  unfold Obligations.PulseWidthsStayInRange
  intro s h hmax
  refine ⟨_, h.execMixOk_eq, fun k => ?_⟩
  obtain ⟨o, h0, h1, hwidth⟩ := mixedWidths_get_eq s k
  obtain ⟨hlow, hhigh⟩ := toPulseWidth_mem_bounds (h (outputChannel k)) h0 h1
  rw [← hwidth] at hlow hhigh
  exact ⟨hlow, hhigh, mixedWidths_mem h hmax k⟩

/-! #### The throttle commands and their redistribution (R187, R189) -/

/-- The two commands exchange places when the rudder is mirrored. -/
theorem throttle2_eq_throttle1_mirrored (r t : Rat) : throttle2 r t = throttle1 (1 - r) t := by
  rw [throttle1, throttle2, rudderDiff, rudderDiff]
  ring

theorem throttle1_add_throttle2 (r t : Rat) : throttle1 r t + throttle2 r t = 2 * t := by
  rw [throttle1, throttle2]
  ring

/-- The throttle is weighted by a factor of 1/5 to 9/5. -/
theorem throttle1_mem {r t : Rat} (hr0 : 0 ≤ r) (hr1 : r ≤ 1) (ht0 : 0 ≤ t) (ht1 : t ≤ 1) :
    0 ≤ throttle1 r t ∧ throttle1 r t ≤ 9 / 5 := by
  have hfactor : throttle1 r t = t * (1 / 5 + 8 / 5 * r) := by
    rw [throttle1, rudderDiff, Config.diffAuth]
    ring
  rw [hfactor]
  have hlow : 0 ≤ 1 / 5 + 8 / 5 * r := by linarith
  exact ⟨mul_nonneg ht0 hlow, (mul_le_of_le_one_left hlow ht1).trans (by linarith)⟩

theorem excess_nonneg (a : Rat) : 0 ≤ excess a := le_max_left _ _

theorem excess_of_le_one {a : Rat} (h : a ≤ 1) : excess a = 0 := max_eq_left (by linarith)

theorem excess_of_one_le {a : Rat} (h : 1 ≤ a) : excess a = a - 1 := max_eq_right (by linarith)

theorem clamp01_of_mem {q : Rat} (h0 : 0 ≤ q) (h1 : q ≤ 1) : clamp01 q = q := by
  rw [clamp01, min_eq_right h1, max_eq_right h0]

theorem clamp01_of_one_le {q : Rat} (h : 1 ≤ q) : clamp01 q = 1 := by
  rw [clamp01, min_eq_left h, max_eq_right zero_le_one]

/-- At most one command exceeds 1, since together they are at most 2. -/
theorem excess_eq_zero_or {a b : Rat} (hsum : a + b ≤ 2) : excess a = 0 ∨ excess b = 0 := by
  rcases le_total a 1 with ha | ha
  · exact .inl (excess_of_le_one ha)
  · exact .inr (excess_of_le_one (by linarith))

/-- R189 for a command above 1: it comes out at 1, and the other gives up the excess. -/
theorem redistribution_of_one_lt {a b : Rat} (ha : 1 < a) (hsum : a + b ≤ 2) :
    clamp01 (a - excess b) = 1 ∧ b - excess a = b - a + 1 ∧
      (0 ≤ b - excess a → clamp01 (a - excess b) - clamp01 (b - excess a) = a - b) := by
  have hout : clamp01 (a - excess b) = 1 := by
    rw [excess_of_le_one (by linarith : b ≤ 1), sub_zero]
    exact clamp01_of_one_le ha.le
  have hother : b - excess a = b - a + 1 := by
    rw [excess_of_one_le ha.le]
    ring
  refine ⟨hout, hother, fun h0 => ?_⟩
  rw [hout, clamp01_of_mem h0 (by linarith), hother]
  ring

/-- R189 where neither command exceeds 1. -/
theorem redistribution_of_le_one {a b : Rat} (ha0 : 0 ≤ a) (ha : a ≤ 1) (hb : b ≤ 1) : clamp01 (a - excess b) = a := by
  rw [excess_of_le_one hb, sub_zero, clamp01_of_mem ha0 ha]

/-- Settles O35: the commands add up to at most 2, so at most one of them is redistributed. -/
theorem redistributionKeepsDifference : Obligations.RedistributionKeepsDifference := by
  unfold Obligations.RedistributionKeepsDifference
  intro r t hr0 hr1 ht0 ht1 a b f1 f2
  have hadd : a + b = 2 * t := throttle1_add_throttle2 r t
  have hsum : a + b ≤ 2 := by linarith
  have hsum' : b + a ≤ 2 := by linarith
  obtain ⟨ha0, ha1⟩ : 0 ≤ a ∧ a ≤ 9 / 5 := throttle1_mem hr0 hr1 ht0 ht1
  obtain ⟨hb0, hb1⟩ : 0 ≤ b ∧ b ≤ 9 / 5 := by
    rw [show b = throttle1 (1 - r) t from throttle2_eq_throttle1_mirrored r t]
    exact throttle1_mem (by linarith) (by linarith) ht0 ht1
  have hf1 : f1 ≤ a := sub_le_self a (excess_nonneg b)
  have hf2 : f2 ≤ b := sub_le_self b (excess_nonneg a)
  exact ⟨hadd, ha0, ha1, hb0, hb1, excess_eq_zero_or hsum, hf1, hf2, by linarith,
    fun ha => redistribution_of_one_lt ha hsum, fun hb => redistribution_of_one_lt hb hsum',
    fun ha hb => ⟨redistribution_of_le_one ha0 ha hb, redistribution_of_le_one hb0 hb ha⟩⟩

/-! #### Sticks at their midpoints and at full throttle (R199) -/

theorem normalize_midpoint {lo hi : Bound} {v : ChannelValue} (h : lo.toNat < hi.toNat)
    (hmid : 2 * v.toNat = lo.toNat + hi.toNat) : normalize lo hi v = 1 / 2 := by
  have hspan : (((hi.toNat : Int) - lo.toNat : Int) : Rat) ≠ 0 := Int.cast_ne_zero.mpr (by omega)
  have hhalf : linear lo.toNat hi.toNat v.toNat = 1 / 2 := by
    rw [linear, div_eq_div_iff hspan two_ne_zero]
    exact_mod_cast (by omega : ((v.toNat : Int) - lo.toNat) * 2 = 1 * ((hi.toNat : Int) - lo.toNat))
  rw [normalize, hhalf, clamp01_of_mem (by norm_num) (by norm_num)]

theorem normalize_of_max_le {lo hi : Bound} {v : ChannelValue} (h : lo.toNat < hi.toNat)
    (hmax : hi.toNat ≤ v.toNat) : normalize lo hi v = 1 := by
  have hspan : (0 : Rat) < (((hi.toNat : Int) - lo.toNat : Int) : Rat) := Int.cast_pos.mpr (by omega)
  refine clamp01_of_one_le ?_
  rw [linear, one_le_div hspan]
  exact_mod_cast (by omega : (hi.toNat : Int) - lo.toNat ≤ (v.toNat : Int) - lo.toNat)

theorem throttle1_centred (t : Rat) : throttle1 (1 / 2) t = t := by
  rw [throttle1, rudderDiff]
  ring

theorem throttle2_centred (t : Rat) : throttle2 (1 / 2) t = t := by
  rw [throttle2, rudderDiff]
  ring

/-- Inverting the second elevator output makes the pair equal at the midpoints (R190). -/
theorem elevators_centred : 1 - elevator2 (1 / 2) (1 / 2) = elevator1 (1 / 2) (1 / 2) := by
  rw [elevator1, elevator2]
  norm_num

theorem scaledValue_one (lo hi : Bound) : scaledValue lo hi 1 = hi.toNat := by
  rw [scaledValue, one_mul, Int.floor_intCast]
  omega

/-- An output of 1 has the width of the range's upper bound. -/
theorem toPulseWidth_one {lo hi : Bound} (h : lo.toNat < hi.toNat) :
    (toPulseWidth lo hi 1).toNat = 880 + 13 * hi.toNat / 20 := by
  have hwidth := toPulseWidth_toNat h (o := 1) zero_le_one le_rfl
  rw [scaledValue_one] at hwidth
  omega

section Centred

variable {s : State} (h : s.RangesGood)
include h

/-- With the rudder at its midpoint both throttle lines follow the throttle alone. -/
theorem State.RangesGood.throttle_widths_of_centred (hr : 2 * s.CH.rudder.toNat = s.MIN.rudder.toNat + s.MAX.rudder.toNat) :
    s.mixedWidths.thr1 = toPulseWidth s.MIN.throttle s.MAX.throttle
        (normalize s.MIN.throttle s.MAX.throttle s.CH.throttle) ∧
      s.mixedWidths.thr2 = s.mixedWidths.thr1 := by
  have hrudder : normalize s.MIN.rudder s.MAX.rudder s.CH.rudder = 1 / 2 := normalize_midpoint (h .rudder) hr
  have h0 : 0 ≤ normalize s.MIN.throttle s.MAX.throttle s.CH.throttle := clamp01_nonneg _
  have h1 : normalize s.MIN.throttle s.MAX.throttle s.CH.throttle ≤ 1 := clamp01_le_one _
  simp only [State.mixedWidths, PerChannel.get, hrudder, throttle1_centred, throttle2_centred,
    redistribution_of_le_one h0 h1 h1, and_self]

theorem State.RangesGood.elevator_widths_of_centred
    (he : 2 * s.CH.elevator.toNat = s.MIN.elevator.toNat + s.MAX.elevator.toNat)
    (ha : 2 * s.CH.aileron.toNat = s.MIN.aileron.toNat + s.MAX.aileron.toNat) :
    s.mixedWidths.elv1 = s.mixedWidths.elv2 := by
  have helevator : normalize s.MIN.elevator s.MAX.elevator s.CH.elevator = 1 / 2 := normalize_midpoint (h .elevator) he
  have haileron : normalize s.MIN.aileron s.MAX.aileron s.CH.aileron = 1 / 2 := normalize_midpoint (h .aileron) ha
  simp only [State.mixedWidths, PerChannel.get, helevator, haileron, elevators_centred]

end Centred

/-- Settles O36: a centred rudder leaves both lines to the throttle, which at its maximum is 1. -/
theorem neutralAndFullThrottle : Obligations.NeutralAndFullThrottle := by
  unfold Obligations.NeutralAndFullThrottle
  intro s h
  refine ⟨_, h.execMixOk_eq, fun hmid => ?_, fun hfull hr => ?_⟩
  · obtain ⟨-, hequal⟩ := h.throttle_widths_of_centred (hmid .rudder)
    exact ⟨hequal.symm, h.elevator_widths_of_centred (hmid .elevator) (hmid .aileron)⟩
  · obtain ⟨hwidth, hequal⟩ := h.throttle_widths_of_centred hr
    have hone : normalize s.MIN.throttle s.MAX.throttle s.CH.throttle = 1 := normalize_of_max_le (h .throttle) hfull
    have hupper : s.mixedWidths.thr1.toNat = 880 + 13 * s.MAX.throttle.toNat / 20 := by
      rw [hwidth, hone]
      exact toPulseWidth_one (h .throttle)
    exact ⟨hupper, hequal ▸ hupper⟩

end Sys2Proof.Machine

/-! ### The tick that completes a frame with a degenerate range (R185, R120) -/

namespace Sys2Proof.Machine

/-- FRAME_DONE, the three operations of CYCLE, MIX_DEGENERATE, and the next collection. -/
theorem chain_degenerateFrame {s : State} (n : Nat) (hc : s.cp = .frame) (hi : s.idx = 25#5) (hm : MarkersRight s.F)
    (ht : s.ports.calTrig = false) (hcal : s.calState = .idle) (hr : ¬ s.RangesGood) (hs : s.stray = false)
    (hy : s.synchronized = true) :
    chain (n + 5) s = .next { s with
      T := s.now, CH := decodedChannels s.par.chSlot s.F, failsafeOut := failsafeBit s.F, idx := 0#5,
      events := s.events ++ [.ev4], cp := .frame } := by
  have hmix : (if s.ports.calTrig || s.gCal then ControlPoint.cal else .mix) = .mix := by simp [ht, State.gCal, hcal]
  have hg : s.gRange = false := by rwa [← Bool.not_eq_true, gRange_iff]
  calc chain (n + 5) s
      = chain (n + 4) { s with T := s.now, cp := .cycle } := chain_frameDone (n + 4) hc hi ((markersGood_iff s).mpr hm)
    _ = chain (n + 3) { s with
          T := s.now, CH := decodedChannels s.par.chSlot s.F, failsafeOut := failsafeBit s.F, cp := .mix } := by
        rw [← hmix]
        exact chain_cycle (n + 3) rfl
    _ = chain (n + 2) { s with
          T := s.now, CH := decodedChannels s.par.chSlot s.F, failsafeOut := failsafeBit s.F,
          events := s.events ++ [.ev4], cp := .top } := chain_mixDegenerate (n + 2) rfl hg
    _ = _ := chain_frameStart n rfl hs hy

/-- Settles O41: the tick takes EV4, which repairs nothing, and goes on from TOP to the next collection. -/
theorem degenerateFrameEndsCycle : Obligations.DegenerateFrameEndsCycle := by
  unfold Obligations.DegenerateFrameEndsCycle
  intro s h hlast hm ht hcal hr
  obtain ⟨hy, hs, -⟩ := h.frameOpen hlast.collecting
  have hrun := chain_degenerateFrame (s := { s with F := s.group, idx := 25#5, events := [] }) 7 hlast.collecting rfl hm
    ht hcal hr hs hy
  change execTick s = _
  rw [execTick_go (by simp [hlast.collecting, isReserved]), bookByte_lastByte hlast, andThen_next, execRun, chainFuel, hrun,
    andThen_next]
  simp [State.decoded, State.advanceClock, failsafeBit, Config.fsByte, Config.fsBit, hlast.collecting]

end Sys2Proof.Machine

/-! ### The pulse scheduler (R210 to R218)

Each of the four operations ends a wait and sets the deadline of the next, so a run of the scheduler is a sequence of waits, each
left by a tick that raises or drops a line. -/

namespace Sys2Proof.Machine

/-- Settles O37: each meaning is its rule's writes, on the lines that R211 gives for the parity. -/
theorem pulseOperations : Obligations.PulseOperations := by
  unfold Obligations.PulseOperations
  exact fun s => ⟨rfl, rfl, rfl, rfl⟩

theorem readsDeadline_of_isScheduling {c : ControlPoint} (h : isScheduling c = true) : readsDeadline c = true := by
  revert h
  cases c <;> simp [isScheduling, readsDeadline]

/-- Settles O20: the scheduler's control points are waits for a deadline, and the trace stays empty. -/
theorem schedulerWaitOnlyAdvances : Obligations.SchedulerWaitOnlyAdvances := by
  unfold Obligations.SchedulerWaitOnlyAdvances
  intro s hc hr he
  exact (execTick_wait (readsDeadline_of_isScheduling hc) hr).trans (by rw [← he])

/-! #### The ticks that end a wait -/

/-- The state in which the chain of a tick at a scheduler's wait begins: the trace is empty, and part 1 can only have set `stray`
(R132). -/
def State.strayBooked (s : State) : State := { s with stray := s.stray || s.ports.rxValid, events := [] }

/-- The two slots of a cycle (R211): the line `k` that the parity selects rises at the end of the wait `c` and is held
at `d`. -/
inductive PulseSlot (parity : Bool) : (k : Output) → (c d : ControlPoint) → Prop where
  | first : PulseSlot parity (slot1Line parity) .wait1 .hold1
  | second : PulseSlot parity (slot2Line parity) .wait2 .hold2

namespace PulseSlot

variable {p : Bool} {k : Output} {c d : ControlPoint}

theorem wait_scheduling (h : PulseSlot p k c d) : isScheduling c = true := by cases h <;> rfl

theorem hold_scheduling (h : PulseSlot p k c d) : isScheduling d = true := by cases h <;> rfl

theorem lines_at_wait (h : PulseSlot p k c d) : expectedLines c p = linesLow := by cases h <;> rfl

theorem lines_at_hold (h : PulseSlot p k c d) : expectedLines d p = linesLow.set k true := by cases h <;> rfl

/-- PULSE1_ON or PULSE2_ON, and the wait for the end of the pulse (R212, R215). -/
theorem chain_rise (h : PulseSlot p k c d) {s : State} (n : Nat) (hc : s.cp = c) (hp : s.parity = p)
    (hr : reached s.now s.dl = true) (hw : 0 < (s.PW.get k).toNat) :
    chain (n + 2) s = .next ((s.assertLine k).goto d) := by
  have hwait : chain (n + 1) ((s.assertLine k).goto d) = .next ((s.assertLine k).goto d) :=
    chain_stall n (readsDeadline_of_isScheduling h.hold_scheduling) (not_reached_width hw)
  subst hp
  cases h with
  | first => rw [chain_pulse1On (n + 1) hc hr, hwait]
  | second => rw [chain_pulse2On (n + 1) hc hr, hwait]

theorem execTick_rise (h : PulseSlot p k c d) {s : State} (hc : s.cp = c) (hp : s.parity = p)
    (hr : reached s.now s.dl = true) (hw : 0 < (s.PW.get k).toNat) :
    execTick s = .next { s.strayBooked with
      OUT := s.OUT.set k true, dl := s.now + ticks (s.PW.get k), cp := d, now := s.now + 1#32 } :=
  execTick_deadline (by rw [hc]; exact readsDeadline_of_isScheduling h.wait_scheduling)
    (h.chain_rise (s := s.strayBooked) 10 hc hp hr hw)

end PulseSlot

/-- What follows TOP leaves the rest of the state as it was (R114). -/
theorem settleTop_rest (s : State) :
    s.settleTop = { s with
      cp := s.settleTop.cp, idx := s.settleTop.idx, dl := s.settleTop.dl, stray := s.settleTop.stray,
      synchronized := s.settleTop.synchronized, events := s.settleTop.events } := by
  unfold State.settleTop
  split
  · rfl
  · split <;> rfl

/-- PULSE1_OFF with the second slot ahead (R213). -/
theorem execTick_fall1 {s : State} (hc : s.cp = .hold1) (hr : reached s.now s.dl = true)
    (hahead : reached s.now (s.T + 4000#32) = false) :
    execTick s = .next { s.strayBooked with
      OUT := s.OUT.set (slot1Line s.parity) false, dl := s.T + 4000#32, cp := .wait2, now := s.now + 1#32 } :=
  execTick_deadline (by rw [hc]; rfl) ((chain_pulse1Off (s := s.strayBooked) 11 hc hr).trans (chain_stall 10 rfl hahead))

/-- PULSE1_OFF with the second slot due at once, so that PULSE2_ON follows in the same tick (R213, R215). -/
theorem execTick_fall1_late {s : State} (hc : s.cp = .hold1) (hr : reached s.now s.dl = true)
    (hlate : reached s.now (s.T + 4000#32) = true) (hw : 0 < (s.PW.get (slot2Line s.parity)).toNat) :
    execTick s = .next { s.strayBooked with
      OUT := (s.OUT.set (slot1Line s.parity) false).set (slot2Line s.parity) true,
      dl := s.now + ticks (s.PW.get (slot2Line s.parity)), cp := .hold2, now := s.now + 1#32 } :=
  execTick_deadline (by rw [hc]; rfl)
    ((chain_pulse1Off (s := s.strayBooked) 11 hc hr).trans (PulseSlot.second.chain_rise 9 rfl rfl hlate hw))

/-- PULSE2_OFF comes to TOP with the line low and the parity toggled (R216). -/
def State.pulsesDone (s : State) : State :=
  { s.strayBooked with OUT := s.OUT.set (slot2Line s.parity) false, parity := !s.parity, cp := .top }

theorem execTick_fall2 {s : State} (hc : s.cp = .hold2) (hr : reached s.now s.dl = true) :
    execTick s = .next s.pulsesDone.settleTop.advanceClock :=
  execTick_deadline (by rw [hc]; rfl) ((chain_pulse2Off (s := s.strayBooked) 11 hc hr).trans (chain_top 8 rfl))

/-! #### Runs without a reset -/

/-- `n` steps without a reset take `s` to a state with the property `P`; the clock has advanced by `n`, and the edges that follow
are as free of resets as they were. -/
def Reaches (s : State) (n : Nat) (P : State → Prop) : Prop :=
  ∀ m, s.noReset (n + m) →
    ∃ t, steps n s = .next t ∧ t.noReset m ∧ t.now = s.now + BitVec.ofNat 32 n ∧ P t

section Runs

variable {s t : State} {n m : Nat} {P Q : State → Prop}

theorem Reaches.trans (h : Reaches s n P) (hQ : ∀ t, t.now = s.now + BitVec.ofNat 32 n → P t → Reaches t m Q) :
    Reaches s (n + m) Q := by
  intro j hj
  obtain ⟨t, ht, htreset, htnow, hP⟩ := h (m + j) (by rwa [← Nat.add_assoc])
  obtain ⟨r, hr, hrreset, hrnow, hq⟩ := hQ t htnow hP j htreset
  refine ⟨r, by rw [steps_add, ht, andThen_next, hr], hrreset, ?_, hq⟩
  rw [hrnow, htnow, BitVec.add_assoc, ← BitVec.ofNat_add]

theorem Reaches.mono (h : Reaches s n P) (hPQ : ∀ t, P t → Q t) : Reaches s n Q := by
  intro m hm
  obtain ⟨t, ht, hreset, hnow, hP⟩ := h m hm
  exact ⟨t, ht, hreset, hnow, hPQ t hP⟩

/-- The state after `n` of `N` edges without a reset. -/
theorem Reaches.exists_state {N : Nat} (h : Reaches s n P) (hn : n ≤ N) (hr : s.noReset N) :
    ∃ t, steps n s = .next t ∧ t.now = s.now + BitVec.ofNat 32 n ∧ P t := by
  obtain ⟨m, rfl⟩ := Nat.exists_eq_add_of_le hn
  obtain ⟨t, ht, -, hnow, hP⟩ := h m hr
  exact ⟨t, ht, hnow, hP⟩

theorem reaches_self (h : P s) : Reaches s 0 P :=
  fun m hm => ⟨s, rfl, by rwa [Nat.zero_add] at hm, by simp, h⟩

theorem reaches_tick (h : execTick s.atEdge = .next t) (hnow : t.now = s.now + 1#32) (hports : t.ports = s.nextPorts)
    (hscript : t.script = s.script.tail) (hP : P t) : Reaches s 1 P := by
  intro m hm
  rw [Nat.add_comm] at hm
  exact ⟨t, by rw [steps_one, hm.step_eq_tick, h], hm.after_edge hports hscript, hnow, hP⟩

end Runs

/-! #### The waits of a cycle -/

@[simp] theorem linesLow_get (k : Output) : linesLow.get k = false := by cases k <;> rfl

/-- A wait `c` of the cycle that has the widths, the parity and the timestamp of `b`. -/
structure CycleAt (b : State) (c : ControlPoint) (t : State) : Prop where
  cp : t.cp = c
  lines : t.OUT = expectedLines c b.parity
  parity : t.parity = b.parity
  widths : t.PW = b.PW
  timestamp : t.T = b.T

/-- A wait of a cycle, `left` ticks before the one that ends it. -/
structure WaitsFor (b : State) (c : ControlPoint) (left : Nat) (t : State) : Prop extends CycleAt b c t where
  due : t.dl = t.now + BitVec.ofNat 32 left

/-- A mix cycle has ended (R216): no line is asserted, the parity is the other, and the next collection or probe is open. -/
structure CycleOver (b : State) (t : State) : Prop where
  lines : t.OUT = linesLow
  parity : t.parity = !b.parity
  opened : t.cp = .frame ∨ t.cp = .probe

section Waits

variable {b s t : State} {k : Output} {c d : ControlPoint} {n left : Nat}

theorem WaitsFor.reached_of_zero (h : WaitsFor b c 0 t) : reached t.now t.dl = true := by
  have hdl : t.dl = t.now := by simpa using h.due
  rw [hdl, reached_self]

/-- While the deadline is ahead the wait goes on (R214). -/
theorem WaitsFor.wait (h : WaitsFor b c (n + left) t) (hc : isScheduling c = true) (hlt : n + left < 2 ^ 31) :
    Reaches t n (WaitsFor b c left) := by
  intro m hm
  obtain ⟨hcp, hlines, hparity, hwidths, hT⟩ := h.toCycleAt
  obtain ⟨r, hr, hreset, hframe⟩ :=
    steps_wait n left m hlt (by rw [hcp]; exact readsDeadline_of_isScheduling hc) h.due hm
  refine ⟨r, hr, hreset, by rw [hframe], ?_⟩
  rw [hframe]
  refine ⟨⟨hcp, hlines, hparity, hwidths, hT⟩, ?_⟩
  change t.dl = t.now + BitVec.ofNat 32 n + BitVec.ofNat 32 left
  rw [h.due, BitVec.add_assoc, ← BitVec.ofNat_add]

/-- Each state of a wait, from its first one to the one whose tick ends it. -/
theorem Reaches.within (h : Reaches s n (WaitsFor b c left)) (hc : isScheduling c = true) (hlt : left < 2 ^ 31) {m : Nat}
    (hn : n ≤ m) (hm : m ≤ n + left) : Reaches s m (WaitsFor b c (n + left - m)) := by
  obtain ⟨i, rfl⟩ := Nat.exists_eq_add_of_le hn
  obtain ⟨j, rfl⟩ : ∃ j, left = i + j := Nat.exists_eq_add_of_le (by omega)
  rw [show n + (i + j) - (n + i) = j by omega]
  exact h.trans fun t _ ht => ht.wait hc hlt

/-- The deadline of a line that rises, counted from the state that the rising tick leaves. -/
theorem pulseDeadline_eq (now : Time) {w : Width} (h : 0 < w.toNat) :
    now + ticks w = now + 1#32 + BitVec.ofNat 32 (w.toNat - 1) := by
  have hwide : ticks w = 1#32 + BitVec.ofNat 32 (w.toNat - 1) := by
    rw [← BitVec.ofNat_add, Nat.add_sub_cancel' h, ← ticks_toNat, BitVec.ofNat_toNat, BitVec.setWidth_eq]
  rw [hwide, BitVec.add_assoc]

/-- A wait for a pulse whose deadline is reached, on time or late, ends with the line's rise. -/
theorem CycleAt.rise (h : CycleAt b c t) (hslot : PulseSlot b.parity k c d) (hr : reached t.now t.dl = true)
    (hw : 0 < (b.PW.get k).toNat) : Reaches t 1 (WaitsFor b d ((b.PW.get k).toNat - 1)) := by
  obtain ⟨hcp, hlines, hparity, hwidths, hT⟩ := h
  rw [← hwidths] at hw
  have htick := hslot.execTick_rise (s := t.atEdge) hcp hparity hr hw
  refine reaches_tick htick rfl rfl rfl ⟨⟨rfl, ?_, hparity, hwidths, hT⟩, ?_⟩
  · rw [hslot.lines_at_hold, ← hslot.lines_at_wait, ← hlines]
    rfl
  · rw [← hwidths]
    exact pulseDeadline_eq t.now hw

/-- The first pulse ends before the second slot, whose deadline counts from the timestamp. -/
theorem CycleAt.fall1 (h : CycleAt b .hold1 t) (hr : reached t.now t.dl = true)
    (hT : b.T + 4000#32 = t.now + BitVec.ofNat 32 (left + 1)) (hlt : left + 1 < 2 ^ 31) :
    Reaches t 1 (WaitsFor b .wait2 left) := by
  obtain ⟨hcp, hlines, hparity, hwidths, htime⟩ := h
  rw [← htime] at hT
  have hahead : reached t.now (t.T + 4000#32) = false := by
    rw [hT]
    apply reached_ahead <;> rw [BitVec.toNat_ofNat] <;> omega
  have htick := execTick_fall1 (s := t.atEdge) hcp hr hahead
  refine reaches_tick htick rfl rfl rfl ⟨⟨rfl, ?_, hparity, hwidths, htime⟩, ?_⟩
  · change t.OUT.set (slot1Line t.parity) false = _
    rw [hlines, hparity]
    exact linesLow_set_set _
  · change t.T + 4000#32 = t.now + 1#32 + BitVec.ofNat 32 left
    rw [hT, BitVec.add_assoc, ← BitVec.ofNat_add, Nat.add_comm 1]

/-- The second pulse ends the cycle. -/
theorem CycleAt.fall2 (h : CycleAt b .hold2 t) (hr : reached t.now t.dl = true) : Reaches t 1 (CycleOver b) := by
  have htick := execTick_fall2 (s := t.atEdge) h.cp hr
  rw [settleTop_rest] at htick
  refine reaches_tick htick rfl rfl rfl ⟨?_, congrArg not h.parity, settleTop_cp t.atEdge.pulsesDone⟩
  change t.OUT.set (slot2Line t.parity) false = _
  rw [h.lines, h.parity]
  exact linesLow_set_set _

/-- A pulse that is due to end ends in this tick, whether the deadline that follows it is ahead or not. -/
theorem CycleAt.fall (h : CycleAt b d t) (hslot : PulseSlot b.parity k c d) (hr : reached t.now t.dl = true)
    (hw : ∀ l, 0 < (b.PW.get l).toNat) : Reaches t 1 fun r => r.OUT.get k = false := by
  cases hslot with
  | first =>
    rw [← h.parity]
    cases hlate : reached t.now (t.T + 4000#32)
    · exact reaches_tick (execTick_fall1 (s := t.atEdge) h.cp hr hlate) rfl rfl rfl
        (by simp [PerOutput.get_set, State.atEdge])
    · have hw2 : 0 < (t.PW.get (slot2Line t.parity)).toNat := h.widths ▸ hw _
      have hne : slot1Line t.parity ≠ slot2Line t.parity := by cases t.parity <;> decide
      exact reaches_tick (execTick_fall1_late (s := t.atEdge) h.cp hr hlate hw2) rfl rfl rfl
        (by simp [PerOutput.get_set, hne, State.atEdge])
  | second => exact (h.fall2 hr).mono fun r hover => by rw [hover.lines, linesLow_get]

theorem Reaches.cycleAt (h : Reaches s n (WaitsFor b c left)) (hd : d = c) : Reaches s n (CycleAt b d) :=
  hd ▸ h.mono fun _ ht => ht.toCycleAt

/-- A wait and the tick that ends it. -/
theorem Reaches.atDeadline {Q : State → Prop} (h : Reaches s n (WaitsFor b c left)) (hc : isScheduling c = true)
    (hlt : left < 2 ^ 31) (hQ : ∀ t, t.now = s.now + BitVec.ofNat 32 (n + left) → WaitsFor b c 0 t → Reaches t 1 Q)
    {m : Nat} (hm : m = n + left + 1) : Reaches s m Q := by
  have hend : Reaches s (n + left) (WaitsFor b c 0) := by
    simpa using h.within hc hlt (Nat.le_add_right n left) (Nat.le_refl _)
  exact hm ▸ hend.trans hQ

end Waits

/-! #### A pulse is high for its width (R217) -/

/-- Settles O38: the rise leaves the wait for the end of the pulse, `PW[k] - 1` ticks before the tick that ends it. -/
theorem pulseIsExactlyItsWidth : Obligations.PulseIsExactlyItsWidth := by
  unfold Obligations.PulseIsExactlyItsWidth
  intro s k hsafe hr hat hreset
  obtain ⟨c, d, hc, hslot⟩ : ∃ c d, s.cp = c ∧ PulseSlot s.parity k c d := by
    rcases hat with ⟨hc, rfl⟩ | ⟨hc, rfl⟩
    · exact ⟨_, _, hc, .first⟩
    · exact ⟨_, _, hc, .second⟩
  have hpulsing := hsafe.pulsing (hc ▸ hslot.wait_scheduling)
  have hwidth (l : Output) : 0 < (s.PW.get l).toNat := Nat.lt_of_lt_of_le (by decide) (hpulsing.widths l).1
  have hlines : s.OUT = expectedLines c s.parity := hc ▸ hsafe.lines
  have hrise : Reaches s 1 (WaitsFor s d ((s.PW.get k).toNat - 1)) :=
    CycleAt.rise ⟨hc, hlines, rfl, rfl, rfl⟩ hslot hr (hwidth k)
  have hk := hwidth k
  have hfit := (s.PW.get k).isLt
  refine ⟨by rw [hlines, hslot.lines_at_wait, linesLow_get], fun n hn => ?_⟩
  rcases Nat.lt_or_eq_of_le hn with hlt | rfl
  · have hhold := hrise.within (m := n + 1) hslot.hold_scheduling (by omega) (by omega) (by omega)
    obtain ⟨t, ht, -, hwait⟩ := hhold.exists_state (by omega) hreset
    refine ⟨t, ht, ?_⟩
    rw [hwait.lines, hslot.lines_at_hold, PerOutput.get_set, if_pos rfl, decide_eq_true hlt]
  · have hfall := hrise.atDeadline hslot.hold_scheduling (by omega)
      (fun t _ ht => ht.fall hslot ht.reached_of_zero hwidth) (m := (s.PW.get k).toNat + 1) (by omega)
    obtain ⟨t, ht, -, hlow⟩ := hfall.exists_state (Nat.le_refl _) hreset
    exact ⟨t, ht, hlow.trans (decide_eq_false (Nat.lt_irrefl _)).symm⟩

/-! #### The timeline of a mix cycle (R218) -/

/-- The control point `m` steps after the state that the frame's tick leaves, for a first pulse of `w1` ticks and until the second
one ends. -/
def timelinePoint (w1 m : Nat) : ControlPoint :=
  if m < 1000 then .wait1 else if m < 1000 + w1 then .hold1 else if m < 4000 then .wait2 else .hold2

theorem timelinePoint_wait1 {w1 m : Nat} (h : m < 1000) : timelinePoint w1 m = .wait1 := if_pos h

theorem timelinePoint_hold1 {w1 m : Nat} (h : 1000 ≤ m) (h1 : m < 1000 + w1) : timelinePoint w1 m = .hold1 := by
  rw [timelinePoint, if_neg (by omega), if_pos h1]

theorem timelinePoint_wait2 {w1 m : Nat} (h : 1000 + w1 ≤ m) (h1 : m < 4000) : timelinePoint w1 m = .wait2 := by
  rw [timelinePoint, if_neg (by omega), if_neg (by omega), if_pos h1]

theorem timelinePoint_hold2 {w1 m : Nat} (hw : w1 ≤ 3000) (h : 4000 ≤ m) : timelinePoint w1 m = .hold2 := by
  rw [timelinePoint, if_neg (by omega), if_neg (by omega), if_neg (by omega)]

/-- R39 (d), line by line. -/
theorem expectedLines_get (c : ControlPoint) (parity : Bool) (k : Output) :
    (expectedLines c parity).get k =
      decide (c = .hold1 ∧ k = slot1Line parity ∨ c = .hold2 ∧ k = slot2Line parity) := by
  unfold expectedLines
  split
  · rename_i hc
    simp [hc, PerOutput.get_set]
  · split
    · rename_i hc
      simp [hc, PerOutput.get_set]
    · simp [*]

/-- The two pulses of the timeline: the lines that are asserted at its control points. -/
theorem timelineLines_get {w1 w2 m : Nat} (hw : w1 ≤ 3000) (hm : m < 4000 + w2) (parity : Bool) (k : Output) :
    (expectedLines (timelinePoint w1 m) parity).get k =
      decide (k = slot1Line parity ∧ 1000 ≤ m ∧ m < 1000 + w1 ∨ k = slot2Line parity ∧ 4000 ≤ m ∧ m < 4000 + w2) := by
  have hfirst : timelinePoint w1 m = .hold1 ↔ 1000 ≤ m ∧ m < 1000 + w1 := by
    unfold timelinePoint
    split_ifs <;> simp <;> omega
  have hsecond : timelinePoint w1 m = .hold2 ↔ 4000 ≤ m ∧ m < 4000 + w2 := by
    unfold timelinePoint
    split_ifs <;> simp <;> omega
  simp only [expectedLines_get, hfirst, hsecond, and_comm (a := k = _)]

/-- A mix cycle after the tick of its frame: the wait for slot 1, and widths that end the first pulse before slot 2 (R195). -/
structure MixCycleStart (u : State) : Prop extends WaitsFor u .wait1 999 u where
  clock : u.now = u.T + 1#32
  range : ∀ k, 880 ≤ (u.PW.get k).toNat ∧ (u.PW.get k).toNat ≤ 2537

namespace MixCycleStart

variable {u : State} {w1 w2 : Nat}

theorem reaches_hold1 (h : MixCycleStart u) (hw1 : w1 = (u.PW.get (slot1Line u.parity)).toNat) :
    Reaches u 1000 (WaitsFor u .hold1 (w1 - 1)) := by
  have hrange := h.range (slot1Line u.parity)
  subst hw1
  exact (reaches_self h.toWaitsFor).atDeadline rfl (by decide)
    (fun t _ ht => ht.rise .first ht.reached_of_zero (by omega)) rfl

theorem reaches_wait2 (h : MixCycleStart u) (hw1 : w1 = (u.PW.get (slot1Line u.parity)).toNat) :
    Reaches u (1000 + w1) (WaitsFor u .wait2 (2999 - w1)) := by
  have hrange := h.range (slot1Line u.parity)
  rw [← hw1] at hrange
  refine (h.reaches_hold1 hw1).atDeadline rfl (by omega) (fun t hnow ht => ?_) (by omega)
  refine ht.fall1 ht.reached_of_zero ?_ (by omega)
  rw [hnow, h.clock, BitVec.add_assoc, BitVec.add_assoc, ← BitVec.ofNat_add, ← BitVec.ofNat_add]
  congr 2
  omega

theorem reaches_hold2 (h : MixCycleStart u) (hw2 : w2 = (u.PW.get (slot2Line u.parity)).toNat) :
    Reaches u 4000 (WaitsFor u .hold2 (w2 - 1)) := by
  have hrange1 := h.range (slot1Line u.parity)
  have hrange2 := h.range (slot2Line u.parity)
  subst hw2
  exact (h.reaches_wait2 rfl).atDeadline rfl (by omega)
    (fun t _ ht => ht.rise .second ht.reached_of_zero (by omega)) (by omega)

theorem reaches_over (h : MixCycleStart u) (hw2 : w2 = (u.PW.get (slot2Line u.parity)).toNat) :
    Reaches u (4000 + w2) (CycleOver u) := by
  have hrange := h.range (slot2Line u.parity)
  rw [← hw2] at hrange
  exact (h.reaches_hold2 hw2).atDeadline rfl (by omega) (fun t _ ht => ht.fall2 ht.reached_of_zero) (by omega)

/-- Tick by tick, up to the end of the second pulse. -/
theorem reaches_timelinePoint (h : MixCycleStart u) (hw1 : w1 = (u.PW.get (slot1Line u.parity)).toNat)
    (hw2 : w2 = (u.PW.get (slot2Line u.parity)).toNat) {m : Nat} (hm : m < 4000 + w2) :
    Reaches u m (CycleAt u (timelinePoint w1 m)) := by
  have hrange1 := h.range (slot1Line u.parity)
  have hrange2 := h.range (slot2Line u.parity)
  rw [← hw1] at hrange1
  rw [← hw2] at hrange2
  have hstart := reaches_self h.toWaitsFor
  by_cases hwait1 : m < 1000
  · exact (hstart.within rfl (by decide) (by omega) (by omega)).cycleAt (timelinePoint_wait1 hwait1)
  by_cases hhold1 : m < 1000 + w1
  · exact ((h.reaches_hold1 hw1).within rfl (by omega) (by omega) (by omega)).cycleAt
      (timelinePoint_hold1 (by omega) hhold1)
  by_cases hwait2 : m < 4000
  · exact ((h.reaches_wait2 hw1).within rfl (by omega) (by omega) (by omega)).cycleAt
      (timelinePoint_wait2 (by omega) hwait2)
  · exact ((h.reaches_hold2 hw2).within rfl (by omega) (by omega) (by omega)).cycleAt
      (timelinePoint_hold2 (by omega) (by omega))

end MixCycleStart

/-- The tick of a good frame starts a mix cycle (R139, R112's example). -/
theorem Safe.execTick_mixCycleStart {s : State} (h : Safe s) (hlast : s.AtLastByte) (hm : MarkersRight s.group)
    (ht : s.ports.calTrig = false) (hs : s.calState = .idle) (hr : s.RangesGood) :
    ∃ u, execTick s = .next u ∧ MixCycleStart u ∧ u.T = s.now ∧ u.parity = s.parity := by
  have hranges : s.decoded.RangesGood := hr
  refine ⟨_, execTick_goodFrame hlast hm ht hs hr, ⟨⟨⟨rfl, ?_, rfl, rfl, rfl⟩, ?_⟩, rfl, ?_⟩, rfl, rfl⟩
  · exact h.lines.trans (by rw [hlast.collecting]; rfl)
  · change s.now + 1000#32 = s.now + 1#32 + 999#32
    rw [BitVec.add_assoc]
    rfl
  · exact mixedWidths_mem hranges fun c => (h.bounds c).2

/-- Settles O39: the waits of the cycle follow one another as the timeline says, with the lines of its control points. -/
theorem mixCycleTimeline : Obligations.MixCycleTimeline := by
  unfold Obligations.MixCycleTimeline
  intro s hsafe hlast hm htrig hrst hedge hcal hranges k1 k2
  have hsafe' : Safe s.atEdge := { hsafe with }
  obtain ⟨u, hu, hstart, hT, hparity⟩ := hsafe'.execTick_mixCycleStart hlast hm htrig hcal hranges
  refine ⟨u, by rw [steps_one, step_tick hedge hrst, hu], hstart.cp, hT, ?_⟩
  intro w1 w2 hreset m hm
  have hclock : u.now = s.now + 1#32 := hT ▸ hstart.clock
  have hp : s.parity = u.parity := hparity.symm
  have hw1 : w1 = (u.PW.get (slot1Line u.parity)).toNat := hp ▸ rfl
  have hw2 : w2 = (u.PW.get (slot2Line u.parity)).toNat := hp ▸ rfl
  have hk1 : k1 = slot1Line u.parity := hp ▸ rfl
  have hk2 : k2 = slot2Line u.parity := hp ▸ rfl
  clear_value w1 w2 k1 k2
  have hrange := hstart.range (slot1Line u.parity)
  rw [← hw1] at hrange
  rw [hp, hk1, hk2, ← hclock]
  rcases Nat.lt_or_eq_of_le hm with hlt | hlast
  · obtain ⟨t, ht, hnow, hat⟩ := (hstart.reaches_timelinePoint hw1 hw2 hlt).exists_state hm hreset
    refine ⟨t, ht, hnow, fun k => ?_, fun h => ?_, fun h h1 => ?_, fun h h1 => ?_, fun h _ => ?_,
      fun _ => hat.parity, fun h => absurd h hlt.ne⟩
    · rw [hat.lines]
      exact timelineLines_get (by omega) hlt u.parity k
    · exact hat.cp.trans (timelinePoint_wait1 h)
    · exact hat.cp.trans (timelinePoint_hold1 h h1)
    · exact hat.cp.trans (timelinePoint_wait2 h h1)
    · exact hat.cp.trans (timelinePoint_hold2 (by omega) h)
  · subst hlast
    obtain ⟨t, ht, hnow, hover⟩ := (hstart.reaches_over hw2).exists_state (Nat.le_refl _) hreset
    refine ⟨t, ht, hnow, fun k => ?_, by omega, by omega, by omega, by omega, by omega,
      fun _ => ⟨hover.parity, hover.opened⟩⟩
    rw [hover.lines, linesLow_get, eq_comm, decide_eq_false_iff_not]
    omega

end Sys2Proof.Machine

/-! ### RESET (R256) -/

namespace Sys2Proof.Machine

/-- The state whose store RESET loads: formatted where `fmt_req` asks for it (R256). -/
def State.formatIf (fmt : Bool) (s : State) : State := if fmt then s.nvFormat else s

@[simp] theorem State.formatIf_par (s : State) (fmt : Bool) : (s.formatIf fmt).par = s.par := by cases fmt <;> rfl
@[simp] theorem State.formatIf_ports (s : State) (fmt : Bool) : (s.formatIf fmt).ports = s.ports := by cases fmt <;> rfl
@[simp] theorem State.formatIf_script (s : State) (fmt : Bool) : (s.formatIf fmt).script = s.script := by cases fmt <;> rfl

theorem formatIf_slots (fmt : Bool) {s : State} (h : Memory.wf s.NV) (c : Channel) :
    (s.formatIf fmt).nvRead (2 * c.index) = (if fmt then 1#8 else s.nvRead (2 * c.index)) ∧
      (s.formatIf fmt).nvRead (2 * c.index + 1) = if fmt then 200#8 else s.nvRead (2 * c.index + 1) := by
  cases fmt with
  | false => exact ⟨rfl, rfl⟩
  | true =>
    obtain ⟨t, ht, -, -, hslots⟩ := nvFormatWritesDefaults s h
    obtain rfl := Host.Outcome.next.inj ht
    exact hslots c

theorem formatIf_unused (fmt : Bool) {s : State} (h : Memory.wf s.NV) {a : Nat} (ha : 8 ≤ a) :
    (s.formatIf fmt).nvRead a = s.nvRead a := by
  cases fmt with
  | false => rfl
  | true =>
    obtain ⟨t, ht, -, hunused, -⟩ := nvFormatWritesDefaults s h
    obtain rfl := Host.Outcome.next.inj ht
    exact hunused a ha

/-- Settles O48: after RESET the store is that of the state it formats or leaves, and the bounds are those that NV_LOAD takes from
it. -/
theorem resetLoadsStoreAndClears : Obligations.ResetLoadsStoreAndClears := by
  unfold Obligations.ResetLoadsStoreAndClears
  intro fmt s hs
  refine ⟨_, rfl, fun c => ?_, fun a ha => formatIf_unused fmt hs ha, rfl, rfl, rfl, rfl, rfl, rfl, rfl, rfl, rfl,
    s.formatIf_par fmt, s.formatIf_ports fmt, s.formatIf_script fmt⟩
  obtain ⟨hlow, hhigh⟩ := formatIf_slots fmt hs c
  exact ⟨hlow, hhigh, nvLoad_MIN_toNat (s.formatIf fmt) c, nvLoad_MAX_toNat (s.formatIf fmt) c⟩

end Sys2Proof.Machine
